-- ==== Sys2Proof/Word.lean ====
section
/-! DEFINITION. The word types of the chipset core (rule R11 of spec/00_scope.md: registers, bus
transfers, Blitter data paths and Copper words are 16 bits, decoder addresses 24 bits).  Only types and
names stand here; every bit-field and byte-order helper is in a file of Machine/. -/

namespace Sys2Proof

/-- One byte of storage. -/
abbrev Byte := BitVec 8

/-- A custom register, a bus word, a Blitter data word or a Copper instruction word (rule R11). -/
abbrev Word := BitVec 16

/-- A CPU long word (rule R108). -/
abbrev Long := BitVec 32

/-- A decoder address, 24 bits (rule R100). -/
abbrev Addr := BitVec 24

/-- A DMA pointer.  Its significant width is the parameter `DMA_ADDR_BITS` (rule R11, 19 by default);
the type is wide enough for every legal value of the parameter, and the bits above it stay 0. -/
abbrev Ptr := BitVec 32

/-- A custom-register offset, `$000..$1FF` (rule R160: the even ones name registers). -/
abbrev RegOff := BitVec 9

end Sys2Proof
end

