-- ==== Sys2Proof/Syntax.lean ====
section
/-! DEFINITION. The instructions: one constructor per row of spec/opcode_table.json.

Three instruction-like encodings (spec/30_encoding.md): Copper instructions (two words at COPPC), Blitter
micro-instruction words (in a micro-program) with the programs made of them, and custom-register
operations (an offset and an access).

A micro-instruction word is a set of action bits and the table has one row per action, so a word is the
constructor of its LEADING action (the first of its actions in the order busidle, bus, write-D, fetch-A,
fetch-B, fetch-C, hold-A, hold-B, fill, hold-D, repeat, bltdone) with the word's other bits in `rest`
(log entry 3). -/

namespace Sys2Proof

/-- An access to a custom register (rule R160): a read by the CPU, or a write of a value. -/
inductive RegOp
  | read
  | write (value : Word)
  deriving DecidableEq, Repr

/-- The actions of a micro-instruction word, in the order of rule R157. -/
inductive MicroAction
  | busidle | bus | writeD | fetchA | fetchB | fetchC | holdA | holdB | holdD | fill | bltdone | repeat
  deriving DecidableEq, Repr

/-- One constructor per row of spec/opcode_table.json; the rows with operands come first (Lean's compiler
allows a constructor with fields only a small tag). -/
inductive Instr
  /-- R152, R270: the register offset divided by 2, and the value. -/
  | copperMove (ra : BitVec 8) (data : Word)
  /-- R153, R274: VP, HP, BFD, VE, HE. -/
  | copperWait (vp : BitVec 8) (hp : BitVec 7) (bfd : Bool) (ve : BitVec 7) (he : BitVec 7)
  /-- R153, R278: VP, HP, BFD, VE, HE. -/
  | copperSkip (vp : BitVec 8) (hp : BitVec 7) (bfd : Bool) (ve : BitVec 7) (he : BitVec 7)
  /-- R323: the bus must be free of DMA. -/
  | uopBusidle (rest : Word)
  /-- R324: hold the bus, transfer nothing. -/
  | uopBus (rest : Word)
  /-- R325: write D. -/
  | uopWriteD (rest : Word)
  /-- R326: read A. -/
  | uopFetchA (rest : Word)
  /-- R327: read B. -/
  | uopFetchB (rest : Word)
  /-- R328: read C. -/
  | uopFetchC (rest : Word)
  /-- R329: A shifter. -/
  | uopHoldA (rest : Word)
  /-- R330: B shifter. -/
  | uopHoldB (rest : Word)
  /-- R331: minterm. -/
  | uopHoldD (rest : Word)
  /-- R331: area fill, together with HOLD_D. -/
  | uopFill (rest : Word)
  /-- R333: end of blit. -/
  | uopBltdone (rest : Word)
  /-- R332: loop. -/
  | uopRepeat (rest : Word)
  -- custom registers (rule R67), in offset order; the access is the operand
  | writeBltddat (op : RegOp)
  | readDmaconr (op : RegOp)
  | readVposr (op : RegOp)
  | readVhposr (op : RegOp)
  | writeDskdatr (op : RegOp)
  | readJoy0dat (op : RegOp)
  | readJoy1dat (op : RegOp)
  | readClxdat (op : RegOp)
  | readAdkconr (op : RegOp)
  | readPot0dat (op : RegOp)
  | readPot1dat (op : RegOp)
  | readPotgor (op : RegOp)
  | readSerdatr (op : RegOp)
  | readDskbytr (op : RegOp)
  | readIntenar (op : RegOp)
  | readIntreqr (op : RegOp)
  | writeDskpth (op : RegOp)
  | writeDskptl (op : RegOp)
  | writeDsklen (op : RegOp)
  | writeDskdat (op : RegOp)
  | writeRefptr (op : RegOp)
  | writeVposw (op : RegOp)
  | writeVhposw (op : RegOp)
  | writeCopcon (op : RegOp)
  | writeSerdat (op : RegOp)
  | writeSerper (op : RegOp)
  | writePotgo (op : RegOp)
  | writeJoytest (op : RegOp)
  | writeStrequ (op : RegOp)
  | writeStrvbl (op : RegOp)
  | writeStrhor (op : RegOp)
  | writeStrlong (op : RegOp)
  | writeBltcon0 (op : RegOp)
  | writeBltcon1 (op : RegOp)
  | writeBltafwm (op : RegOp)
  | writeBltalwm (op : RegOp)
  | writeBltcpth (op : RegOp)
  | writeBltcptl (op : RegOp)
  | writeBltbpth (op : RegOp)
  | writeBltbptl (op : RegOp)
  | writeBltapth (op : RegOp)
  | writeBltaptl (op : RegOp)
  | writeBltdpth (op : RegOp)
  | writeBltdptl (op : RegOp)
  | writeBltsize (op : RegOp)
  | writeBltcmod (op : RegOp)
  | writeBltbmod (op : RegOp)
  | writeBltamod (op : RegOp)
  | writeBltdmod (op : RegOp)
  | writeBltcdat (op : RegOp)
  | writeBltbdat (op : RegOp)
  | writeBltadat (op : RegOp)
  | writeDsksync (op : RegOp)
  | writeCop1lch (op : RegOp)
  | writeCop1lcl (op : RegOp)
  | writeCop2lch (op : RegOp)
  | writeCop2lcl (op : RegOp)
  | writeCopjmp1 (op : RegOp)
  | writeCopjmp2 (op : RegOp)
  | writeCopins (op : RegOp)
  | writeDiwstrt (op : RegOp)
  | writeDiwstop (op : RegOp)
  | writeDdfstrt (op : RegOp)
  | writeDdfstop (op : RegOp)
  | writeDmacon (op : RegOp)
  | writeClxcon (op : RegOp)
  | writeIntena (op : RegOp)
  | writeIntreq (op : RegOp)
  | writeAdkcon (op : RegOp)
  | writeAud0lch (op : RegOp)
  | writeAud0lcl (op : RegOp)
  | writeAud0len (op : RegOp)
  | writeAud0per (op : RegOp)
  | writeAud0vol (op : RegOp)
  | writeAud0dat (op : RegOp)
  | writeAud1lch (op : RegOp)
  | writeAud1lcl (op : RegOp)
  | writeAud1len (op : RegOp)
  | writeAud1per (op : RegOp)
  | writeAud1vol (op : RegOp)
  | writeAud1dat (op : RegOp)
  | writeAud2lch (op : RegOp)
  | writeAud2lcl (op : RegOp)
  | writeAud2len (op : RegOp)
  | writeAud2per (op : RegOp)
  | writeAud2vol (op : RegOp)
  | writeAud2dat (op : RegOp)
  | writeAud3lch (op : RegOp)
  | writeAud3lcl (op : RegOp)
  | writeAud3len (op : RegOp)
  | writeAud3per (op : RegOp)
  | writeAud3vol (op : RegOp)
  | writeAud3dat (op : RegOp)
  | writeBpl1pth (op : RegOp)
  | writeBpl1ptl (op : RegOp)
  | writeBpl2pth (op : RegOp)
  | writeBpl2ptl (op : RegOp)
  | writeBpl3pth (op : RegOp)
  | writeBpl3ptl (op : RegOp)
  | writeBpl4pth (op : RegOp)
  | writeBpl4ptl (op : RegOp)
  | writeBpl5pth (op : RegOp)
  | writeBpl5ptl (op : RegOp)
  | writeBpl6pth (op : RegOp)
  | writeBpl6ptl (op : RegOp)
  | writeBplcon0 (op : RegOp)
  | writeBplcon1 (op : RegOp)
  | writeBplcon2 (op : RegOp)
  | writeBpl1mod (op : RegOp)
  | writeBpl2mod (op : RegOp)
  | writeBpl1dat (op : RegOp)
  | writeBpl2dat (op : RegOp)
  | writeBpl3dat (op : RegOp)
  | writeBpl4dat (op : RegOp)
  | writeBpl5dat (op : RegOp)
  | writeBpl6dat (op : RegOp)
  | writeSpr0pth (op : RegOp)
  | writeSpr0ptl (op : RegOp)
  | writeSpr1pth (op : RegOp)
  | writeSpr1ptl (op : RegOp)
  | writeSpr2pth (op : RegOp)
  | writeSpr2ptl (op : RegOp)
  | writeSpr3pth (op : RegOp)
  | writeSpr3ptl (op : RegOp)
  | writeSpr4pth (op : RegOp)
  | writeSpr4ptl (op : RegOp)
  | writeSpr5pth (op : RegOp)
  | writeSpr5ptl (op : RegOp)
  | writeSpr6pth (op : RegOp)
  | writeSpr6ptl (op : RegOp)
  | writeSpr7pth (op : RegOp)
  | writeSpr7ptl (op : RegOp)
  | writeSpr0pos (op : RegOp)
  | writeSpr0ctl (op : RegOp)
  | writeSpr0data (op : RegOp)
  | writeSpr0datb (op : RegOp)
  | writeSpr1pos (op : RegOp)
  | writeSpr1ctl (op : RegOp)
  | writeSpr1data (op : RegOp)
  | writeSpr1datb (op : RegOp)
  | writeSpr2pos (op : RegOp)
  | writeSpr2ctl (op : RegOp)
  | writeSpr2data (op : RegOp)
  | writeSpr2datb (op : RegOp)
  | writeSpr3pos (op : RegOp)
  | writeSpr3ctl (op : RegOp)
  | writeSpr3data (op : RegOp)
  | writeSpr3datb (op : RegOp)
  | writeSpr4pos (op : RegOp)
  | writeSpr4ctl (op : RegOp)
  | writeSpr4data (op : RegOp)
  | writeSpr4datb (op : RegOp)
  | writeSpr5pos (op : RegOp)
  | writeSpr5ctl (op : RegOp)
  | writeSpr5data (op : RegOp)
  | writeSpr5datb (op : RegOp)
  | writeSpr6pos (op : RegOp)
  | writeSpr6ctl (op : RegOp)
  | writeSpr6data (op : RegOp)
  | writeSpr6datb (op : RegOp)
  | writeSpr7pos (op : RegOp)
  | writeSpr7ctl (op : RegOp)
  | writeSpr7data (op : RegOp)
  | writeSpr7datb (op : RegOp)
  | writeColor00 (op : RegOp)
  | writeColor01 (op : RegOp)
  | writeColor02 (op : RegOp)
  | writeColor03 (op : RegOp)
  | writeColor04 (op : RegOp)
  | writeColor05 (op : RegOp)
  | writeColor06 (op : RegOp)
  | writeColor07 (op : RegOp)
  | writeColor08 (op : RegOp)
  | writeColor09 (op : RegOp)
  | writeColor10 (op : RegOp)
  | writeColor11 (op : RegOp)
  | writeColor12 (op : RegOp)
  | writeColor13 (op : RegOp)
  | writeColor14 (op : RegOp)
  | writeColor15 (op : RegOp)
  | writeColor16 (op : RegOp)
  | writeColor17 (op : RegOp)
  | writeColor18 (op : RegOp)
  | writeColor19 (op : RegOp)
  | writeColor20 (op : RegOp)
  | writeColor21 (op : RegOp)
  | writeColor22 (op : RegOp)
  | writeColor23 (op : RegOp)
  | writeColor24 (op : RegOp)
  | writeColor25 (op : RegOp)
  | writeColor26 (op : RegOp)
  | writeColor27 (op : RegOp)
  | writeColor28 (op : RegOp)
  | writeColor29 (op : RegOp)
  | writeColor30 (op : RegOp)
  | writeColor31 (op : RegOp)
  /-- R462: an access to a non-existent offset. -/
  | accessUnimplementedOffset (off : RegOff) (op : RegOp)
  /-- R334: no action bit. -/
  | uopNothing
  -- Blitter programs (rule R321): shape, fill off or on, accurate or fast-bus-only
  | bltprogFFilloffAccurate
  | bltprogFFilloffFast
  | bltprogFFillonAccurate
  | bltprogFFillonFast
  | bltprogEFilloffAccurate
  | bltprogEFilloffFast
  | bltprogEFillonAccurate
  | bltprogEFillonFast
  | bltprogDFilloffAccurate
  | bltprogDFilloffFast
  | bltprogDFillonAccurate
  | bltprogDFillonFast
  | bltprogCFilloffAccurate
  | bltprogCFilloffFast
  | bltprogCFillonAccurate
  | bltprogCFillonFast
  | bltprogBFilloffAccurate
  | bltprogBFilloffFast
  | bltprogBFillonAccurate
  | bltprogBFillonFast
  | bltprogAFilloffAccurate
  | bltprogAFilloffFast
  | bltprogAFillonAccurate
  | bltprogAFillonFast
  | bltprog9FilloffAccurate
  | bltprog9FilloffFast
  | bltprog9FillonAccurate
  | bltprog9FillonFast
  | bltprog8FilloffAccurate
  | bltprog8FilloffFast
  | bltprog8FillonAccurate
  | bltprog8FillonFast
  | bltprog7FilloffAccurate
  | bltprog7FilloffFast
  | bltprog7FillonAccurate
  | bltprog7FillonFast
  | bltprog6FilloffAccurate
  | bltprog6FilloffFast
  | bltprog6FillonAccurate
  | bltprog6FillonFast
  | bltprog5FilloffAccurate
  | bltprog5FilloffFast
  | bltprog5FillonAccurate
  | bltprog5FillonFast
  | bltprog4FilloffAccurate
  | bltprog4FilloffFast
  | bltprog4FillonAccurate
  | bltprog4FillonFast
  | bltprog3FilloffAccurate
  | bltprog3FilloffFast
  | bltprog3FillonAccurate
  | bltprog3FillonFast
  | bltprog2FilloffAccurate
  | bltprog2FilloffFast
  | bltprog2FillonAccurate
  | bltprog2FillonFast
  | bltprog1FilloffAccurate
  | bltprog1FilloffFast
  | bltprog1FillonAccurate
  | bltprog1FillonFast
  | bltprog0FilloffAccurate
  | bltprog0FilloffFast
  | bltprog0FillonAccurate
  | bltprog0FillonFast
  /-- R346: the line bus program. -/
  | bltprogLine
  /-- R352: the fast path. -/
  | bltFastpath
  deriving DecidableEq, Repr

end Sys2Proof
end

