-- ==== Sys2Proof/WellFormed.lean ====
section
/-! DEFINITION. Well-formedness of an instruction as syntax: rule R158 for micro-instruction words (with the
leading-action form of Syntax.lean), and the class `-` offsets for an unimplemented access (rules R67,
R462).  Every Copper instruction is well-formed (rule R151), and every register operation and program. -/

namespace Sys2Proof

/-- The bit of an action in a micro-instruction word (rule R157). -/
def MicroAction.bitIndex : MicroAction → Nat
  | .busidle => 0 | .bus => 1 | .writeD => 2 | .fetchA => 3 | .fetchB => 4 | .fetchC => 5
  | .holdA => 6 | .holdB => 7 | .holdD => 8 | .fill => 9 | .bltdone => 10 | .repeat => 11

/-- The word with the one bit of an action set (rule R157). -/
def MicroAction.bit (a : MicroAction) : Word := 1#16 <<< a.bitIndex

/-- Whether a micro-instruction word holds an action. -/
def hasAction (w : Word) (a : MicroAction) : Bool := w.getLsbD a.bitIndex

/-- The actions in leading order: a word is the constructor of the first of these that it holds. -/
def leadingOrder : List MicroAction :=
  [.busidle, .bus, .writeD, .fetchA, .fetchB, .fetchC, .holdA, .holdB, .fill, .holdD, .repeat, .bltdone]

/-- The leading action of a word, none for NOTHING. -/
def leadingAction (w : Word) : Option MicroAction := leadingOrder.find? (hasAction w)

/-- The bus class of rule R158. -/
def busClass : List MicroAction := [.busidle, .bus, .writeD, .fetchA, .fetchB, .fetchC]

/-- Rule R158: at most one bus-class bit, `FILL` only with `HOLD_D`, bits 15:12 zero. -/
def microWellFormed (w : Word) : Bool :=
  decide ((busClass.filter (hasAction w)).length ≤ 1)
    && (!hasAction w .fill || hasAction w .holdD)
    && (w &&& 0xF000#16) == 0#16

/-- The check on a constructor `a` with the other bits `rest`: the word is well-formed, `a` leads it, and
`rest` does not hold `a` again. -/
def microTermWellFormed (a : MicroAction) (rest : Word) : Bool :=
  microWellFormed (a.bit ||| rest) && (leadingAction (a.bit ||| rest) == some a) && !hasAction rest a

/-- The offsets of rule R67 that name a register, in increasing order. -/
def namedOffsetsLow : List Nat :=
  [0x000, 0x002, 0x004, 0x006, 0x008, 0x00A, 0x00C, 0x00E, 0x010, 0x012, 0x014, 0x016,
   0x018, 0x01A, 0x01C, 0x01E, 0x020, 0x022, 0x024, 0x026, 0x028, 0x02A, 0x02C, 0x02E,
   0x030, 0x032, 0x034, 0x036, 0x038, 0x03A, 0x03C, 0x03E, 0x040, 0x042, 0x044, 0x046,
   0x048, 0x04A, 0x04C, 0x04E, 0x050, 0x052, 0x054, 0x056, 0x058, 0x060, 0x062, 0x064,
   0x066, 0x070, 0x072, 0x074, 0x07E, 0x080, 0x082, 0x084, 0x086, 0x088, 0x08A, 0x08C,
   0x08E, 0x090, 0x092, 0x094, 0x096, 0x098, 0x09A, 0x09C, 0x09E, 0x0A0, 0x0A2, 0x0A4,
   0x0A6, 0x0A8, 0x0AA, 0x0B0, 0x0B2, 0x0B4, 0x0B6, 0x0B8, 0x0BA, 0x0C0, 0x0C2, 0x0C4,
   0x0C6, 0x0C8, 0x0CA, 0x0D0, 0x0D2, 0x0D4, 0x0D6, 0x0D8, 0x0DA]

/-- The offsets of rule R67 that name a register, `$0E0` to `$13E`. -/
def namedOffsetsMid : List Nat :=
  [0x0E0, 0x0E2, 0x0E4, 0x0E6, 0x0E8, 0x0EA, 0x0EC, 0x0EE, 0x0F0, 0x0F2, 0x0F4, 0x0F6,
   0x100, 0x102, 0x104, 0x108, 0x10A, 0x110, 0x112, 0x114, 0x116, 0x118, 0x11A, 0x120,
   0x122, 0x124, 0x126, 0x128, 0x12A, 0x12C, 0x12E, 0x130, 0x132, 0x134, 0x136, 0x138,
   0x13A, 0x13C, 0x13E]

/-- The offsets of rule R67 that name a register, `$140` to `$1BE`. -/
def namedOffsetsHigh : List Nat :=
  [0x140, 0x142, 0x144, 0x146, 0x148, 0x14A, 0x14C, 0x14E, 0x150, 0x152, 0x154, 0x156,
   0x158, 0x15A, 0x15C, 0x15E, 0x160, 0x162, 0x164, 0x166, 0x168, 0x16A, 0x16C, 0x16E,
   0x170, 0x172, 0x174, 0x176, 0x178, 0x17A, 0x17C, 0x17E, 0x180, 0x182, 0x184, 0x186,
   0x188, 0x18A, 0x18C, 0x18E, 0x190, 0x192, 0x194, 0x196, 0x198, 0x19A, 0x19C, 0x19E,
   0x1A0, 0x1A2, 0x1A4, 0x1A6, 0x1A8, 0x1AA, 0x1AC, 0x1AE, 0x1B0, 0x1B2, 0x1B4, 0x1B6,
   0x1B8, 0x1BA, 0x1BC, 0x1BE]

/-- The offsets that rule R67 names. -/
def namedOffsets : List Nat := namedOffsetsLow ++ namedOffsetsMid ++ namedOffsetsHigh

/-- Class `-` of rule R67: an even offset that names no register. -/
def unimplementedOffset (off : RegOff) : Bool :=
  !off.getLsbD 0 && !namedOffsets.contains off.toNat

/-- The well-formed instructions. -/
def wellFormed : Instr → Bool
  | .uopBusidle rest => microTermWellFormed .busidle rest
  | .uopBus rest => microTermWellFormed .bus rest
  | .uopWriteD rest => microTermWellFormed .writeD rest
  | .uopFetchA rest => microTermWellFormed .fetchA rest
  | .uopFetchB rest => microTermWellFormed .fetchB rest
  | .uopFetchC rest => microTermWellFormed .fetchC rest
  | .uopHoldA rest => microTermWellFormed .holdA rest
  | .uopHoldB rest => microTermWellFormed .holdB rest
  | .uopFill rest => microTermWellFormed .fill rest
  | .uopHoldD rest => microTermWellFormed .holdD rest
  | .uopRepeat rest => microTermWellFormed .repeat rest
  | .uopBltdone rest => microTermWellFormed .bltdone rest
  | .accessUnimplementedOffset off _ => unimplementedOffset off
  | .copperMove .. | .copperWait .. | .copperSkip .. | .uopNothing
  | .bltprogLine | .bltFastpath | .bltprogFFilloffAccurate | .bltprogFFilloffFast
  | .bltprogFFillonAccurate | .bltprogFFillonFast | .bltprogEFilloffAccurate | .bltprogEFilloffFast
  | .bltprogEFillonAccurate | .bltprogEFillonFast | .bltprogDFilloffAccurate | .bltprogDFilloffFast
  | .bltprogDFillonAccurate | .bltprogDFillonFast | .bltprogCFilloffAccurate | .bltprogCFilloffFast
  | .bltprogCFillonAccurate | .bltprogCFillonFast | .bltprogBFilloffAccurate | .bltprogBFilloffFast
  | .bltprogBFillonAccurate | .bltprogBFillonFast | .bltprogAFilloffAccurate | .bltprogAFilloffFast
  | .bltprogAFillonAccurate | .bltprogAFillonFast | .bltprog9FilloffAccurate | .bltprog9FilloffFast
  | .bltprog9FillonAccurate | .bltprog9FillonFast | .bltprog8FilloffAccurate | .bltprog8FilloffFast
  | .bltprog8FillonAccurate | .bltprog8FillonFast | .bltprog7FilloffAccurate | .bltprog7FilloffFast
  | .bltprog7FillonAccurate | .bltprog7FillonFast | .bltprog6FilloffAccurate | .bltprog6FilloffFast
  | .bltprog6FillonAccurate | .bltprog6FillonFast | .bltprog5FilloffAccurate | .bltprog5FilloffFast
  | .bltprog5FillonAccurate | .bltprog5FillonFast | .bltprog4FilloffAccurate | .bltprog4FilloffFast
  | .bltprog4FillonAccurate | .bltprog4FillonFast | .bltprog3FilloffAccurate | .bltprog3FilloffFast
  | .bltprog3FillonAccurate | .bltprog3FillonFast | .bltprog2FilloffAccurate | .bltprog2FilloffFast
  | .bltprog2FillonAccurate | .bltprog2FillonFast | .bltprog1FilloffAccurate | .bltprog1FilloffFast
  | .bltprog1FillonAccurate | .bltprog1FillonFast | .bltprog0FilloffAccurate | .bltprog0FilloffFast
  | .bltprog0FillonAccurate | .bltprog0FillonFast | .writeBltddat _ | .readDmaconr _
  | .readVposr _ | .readVhposr _ | .writeDskdatr _ | .readJoy0dat _
  | .readJoy1dat _ | .readClxdat _ | .readAdkconr _ | .readPot0dat _
  | .readPot1dat _ | .readPotgor _ | .readSerdatr _ | .readDskbytr _
  | .readIntenar _ | .readIntreqr _ | .writeDskpth _ | .writeDskptl _
  | .writeDsklen _ | .writeDskdat _ | .writeRefptr _ | .writeVposw _
  | .writeVhposw _ | .writeCopcon _ | .writeSerdat _ | .writeSerper _
  | .writePotgo _ | .writeJoytest _ | .writeStrequ _ | .writeStrvbl _
  | .writeStrhor _ | .writeStrlong _ | .writeBltcon0 _ | .writeBltcon1 _
  | .writeBltafwm _ | .writeBltalwm _ | .writeBltcpth _ | .writeBltcptl _
  | .writeBltbpth _ | .writeBltbptl _ | .writeBltapth _ | .writeBltaptl _
  | .writeBltdpth _ | .writeBltdptl _ | .writeBltsize _ | .writeBltcmod _
  | .writeBltbmod _ | .writeBltamod _ | .writeBltdmod _ | .writeBltcdat _
  | .writeBltbdat _ | .writeBltadat _ | .writeDsksync _ | .writeCop1lch _
  | .writeCop1lcl _ | .writeCop2lch _ | .writeCop2lcl _ | .writeCopjmp1 _
  | .writeCopjmp2 _ | .writeCopins _ | .writeDiwstrt _ | .writeDiwstop _
  | .writeDdfstrt _ | .writeDdfstop _ | .writeDmacon _ | .writeClxcon _
  | .writeIntena _ | .writeIntreq _ | .writeAdkcon _ | .writeAud0lch _
  | .writeAud0lcl _ | .writeAud0len _ | .writeAud0per _ | .writeAud0vol _
  | .writeAud0dat _ | .writeAud1lch _ | .writeAud1lcl _ | .writeAud1len _
  | .writeAud1per _ | .writeAud1vol _ | .writeAud1dat _ | .writeAud2lch _
  | .writeAud2lcl _ | .writeAud2len _ | .writeAud2per _ | .writeAud2vol _
  | .writeAud2dat _ | .writeAud3lch _ | .writeAud3lcl _ | .writeAud3len _
  | .writeAud3per _ | .writeAud3vol _ | .writeAud3dat _ | .writeBpl1pth _
  | .writeBpl1ptl _ | .writeBpl2pth _ | .writeBpl2ptl _ | .writeBpl3pth _
  | .writeBpl3ptl _ | .writeBpl4pth _ | .writeBpl4ptl _ | .writeBpl5pth _
  | .writeBpl5ptl _ | .writeBpl6pth _ | .writeBpl6ptl _ | .writeBplcon0 _
  | .writeBplcon1 _ | .writeBplcon2 _ | .writeBpl1mod _ | .writeBpl2mod _
  | .writeBpl1dat _ | .writeBpl2dat _ | .writeBpl3dat _ | .writeBpl4dat _
  | .writeBpl5dat _ | .writeBpl6dat _ | .writeSpr0pth _ | .writeSpr0ptl _
  | .writeSpr1pth _ | .writeSpr1ptl _ | .writeSpr2pth _ | .writeSpr2ptl _
  | .writeSpr3pth _ | .writeSpr3ptl _ | .writeSpr4pth _ | .writeSpr4ptl _
  | .writeSpr5pth _ | .writeSpr5ptl _ | .writeSpr6pth _ | .writeSpr6ptl _
  | .writeSpr7pth _ | .writeSpr7ptl _ | .writeSpr0pos _ | .writeSpr0ctl _
  | .writeSpr0data _ | .writeSpr0datb _ | .writeSpr1pos _ | .writeSpr1ctl _
  | .writeSpr1data _ | .writeSpr1datb _ | .writeSpr2pos _ | .writeSpr2ctl _
  | .writeSpr2data _ | .writeSpr2datb _ | .writeSpr3pos _ | .writeSpr3ctl _
  | .writeSpr3data _ | .writeSpr3datb _ | .writeSpr4pos _ | .writeSpr4ctl _
  | .writeSpr4data _ | .writeSpr4datb _ | .writeSpr5pos _ | .writeSpr5ctl _
  | .writeSpr5data _ | .writeSpr5datb _ | .writeSpr6pos _ | .writeSpr6ctl _
  | .writeSpr6data _ | .writeSpr6datb _ | .writeSpr7pos _ | .writeSpr7ctl _
  | .writeSpr7data _ | .writeSpr7datb _ | .writeColor00 _ | .writeColor01 _
  | .writeColor02 _ | .writeColor03 _ | .writeColor04 _ | .writeColor05 _
  | .writeColor06 _ | .writeColor07 _ | .writeColor08 _ | .writeColor09 _
  | .writeColor10 _ | .writeColor11 _ | .writeColor12 _ | .writeColor13 _
  | .writeColor14 _ | .writeColor15 _ | .writeColor16 _ | .writeColor17 _
  | .writeColor18 _ | .writeColor19 _ | .writeColor20 _ | .writeColor21 _
  | .writeColor22 _ | .writeColor23 _ | .writeColor24 _ | .writeColor25 _
  | .writeColor26 _ | .writeColor27 _ | .writeColor28 _ | .writeColor29 _
  | .writeColor30 _ | .writeColor31 _ => true

end Sys2Proof
end

