-- ==== Sys2Proof/Decode.lean ====
section
/-! DEFINITION. Decoding and encoding.

The core has three encodings (spec/30_encoding.md): the two words of a Copper instruction (rules
R150-R153), the micro-instruction word (rule R157), and a register operation (rule R160); a micro-program
is selected by its place in BLT_PROGRAM (rule R321).  A `Code` is an instruction's words with the encoding
they belong to.  `decode` is total on codes and `decodeBytes` on byte strings; both reject by name. -/

namespace Sys2Proof

/-- The words of an instruction, in the encoding they belong to. -/
inductive Code
  /-- The two words at COPPC (rule R150). -/
  | copper (ir1 ir2 : Word)
  /-- A micro-instruction word (rule R157). -/
  | micro (w : Word)
  /-- A register operation: its offset and access (rule R160). -/
  | register (off : RegOff) (op : RegOp)
  /-- The entry of BLT_PROGRAM selected by shape, fill and variant (rule R321). -/
  | program (shape : BitVec 4) (fill fast : Bool)
  /-- The line bus program (rule R346). -/
  | lineProgram
  /-- The fast path (rule R352). -/
  | fastPath
  deriving DecidableEq, Repr

/-- Why a byte string or a code is no instruction. -/
inductive DecodeError
  /-- The bytes end before the instruction does. -/
  | truncated
  /-- A micro-instruction word that breaks rule R158 (refused: rules R158, R163). -/
  | illFormedMicroWord (w : Word)
  /-- A register operation's offset word above `$1FE` or odd (rule R160). -/
  | badOffset (w : Word)
  /-- A program selector that names no entry. -/
  | badSelector (b : Byte)
  deriving DecidableEq, Repr

/-! ### Copper -/

/-- Opcode selection and fields, rules R151-R153. -/
def decodeCopper (ir1 ir2 : Word) : Instr :=
  if ir1.getLsbD 0 = false then
    .copperMove (ir1.extractLsb' 1 8) ir2
  else if ir2.getLsbD 0 = false then
    .copperWait (ir1.extractLsb' 8 8) (ir1.extractLsb' 1 7) (ir2.getLsbD 15)
      (ir2.extractLsb' 8 7) (ir2.extractLsb' 1 7)
  else
    .copperSkip (ir1.extractLsb' 8 8) (ir1.extractLsb' 1 7) (ir2.getLsbD 15)
      (ir2.extractLsb' 8 7) (ir2.extractLsb' 1 7)

/-- `IR1` of a MOVE: bits 15:9 zero, the register offset, bit 0 zero (rule R152). -/
def moveIr1 (ra : BitVec 8) : Word := (0#7 ++ ra ++ 0#1 : BitVec 16)

/-- `IR1` of a WAIT or SKIP (rule R153). -/
def waitIr1 (vp : BitVec 8) (hp : BitVec 7) : Word := (vp ++ hp ++ 1#1 : BitVec 16)

/-- `IR2` of a WAIT (`op = 0`) or SKIP (`op = 1`), rule R153. -/
def waitIr2 (bfd : Bool) (ve he : BitVec 7) (op : BitVec 1) : Word :=
  (BitVec.ofBool bfd ++ ve ++ he ++ op : BitVec 16)

/-! ### Micro-instruction words -/

/-- The constructor of a leading action. -/
def microInstr : MicroAction → Word → Instr
  | .busidle, rest => .uopBusidle rest
  | .bus, rest => .uopBus rest
  | .writeD, rest => .uopWriteD rest
  | .fetchA, rest => .uopFetchA rest
  | .fetchB, rest => .uopFetchB rest
  | .fetchC, rest => .uopFetchC rest
  | .holdA, rest => .uopHoldA rest
  | .holdB, rest => .uopHoldB rest
  | .holdD, rest => .uopHoldD rest
  | .fill, rest => .uopFill rest
  | .bltdone, rest => .uopBltdone rest
  | .repeat, rest => .uopRepeat rest

/-- A well-formed word is its leading action with the other bits (rules R157, R158). -/
def decodeMicro (w : Word) : Except DecodeError Instr :=
  if microWellFormed w then
    match leadingAction w with
    | none => .ok .uopNothing
    | some a => .ok (microInstr a (w &&& ~~~ a.bit))
  else .error (.illFormedMicroWord w)

/-! ### Register operations -/

/-- Rule R67, offsets `$000` to `$03E`. -/
def regRowsSystem : List (Nat × (RegOp → Instr)) :=
  [(0x000, .writeBltddat), (0x002, .readDmaconr), (0x004, .readVposr), (0x006, .readVhposr),
   (0x008, .writeDskdatr), (0x00A, .readJoy0dat), (0x00C, .readJoy1dat), (0x00E, .readClxdat),
   (0x010, .readAdkconr), (0x012, .readPot0dat), (0x014, .readPot1dat), (0x016, .readPotgor),
   (0x018, .readSerdatr), (0x01A, .readDskbytr), (0x01C, .readIntenar), (0x01E, .readIntreqr),
   (0x020, .writeDskpth), (0x022, .writeDskptl), (0x024, .writeDsklen), (0x026, .writeDskdat),
   (0x028, .writeRefptr), (0x02A, .writeVposw), (0x02C, .writeVhposw), (0x02E, .writeCopcon),
   (0x030, .writeSerdat), (0x032, .writeSerper), (0x034, .writePotgo), (0x036, .writeJoytest),
   (0x038, .writeStrequ), (0x03A, .writeStrvbl), (0x03C, .writeStrhor), (0x03E, .writeStrlong)]

/-- Rule R67, offsets `$040` to `$07E`. -/
def regRowsBlitter : List (Nat × (RegOp → Instr)) :=
  [(0x040, .writeBltcon0), (0x042, .writeBltcon1), (0x044, .writeBltafwm), (0x046, .writeBltalwm),
   (0x048, .writeBltcpth), (0x04A, .writeBltcptl), (0x04C, .writeBltbpth), (0x04E, .writeBltbptl),
   (0x050, .writeBltapth), (0x052, .writeBltaptl), (0x054, .writeBltdpth), (0x056, .writeBltdptl),
   (0x058, .writeBltsize), (0x060, .writeBltcmod), (0x062, .writeBltbmod), (0x064, .writeBltamod),
   (0x066, .writeBltdmod), (0x070, .writeBltcdat), (0x072, .writeBltbdat), (0x074, .writeBltadat),
   (0x07E, .writeDsksync)]

/-- Rule R67, offsets `$080` to `$09E`. -/
def regRowsControl : List (Nat × (RegOp → Instr)) :=
  [(0x080, .writeCop1lch), (0x082, .writeCop1lcl), (0x084, .writeCop2lch), (0x086, .writeCop2lcl),
   (0x088, .writeCopjmp1), (0x08A, .writeCopjmp2), (0x08C, .writeCopins), (0x08E, .writeDiwstrt),
   (0x090, .writeDiwstop), (0x092, .writeDdfstrt), (0x094, .writeDdfstop), (0x096, .writeDmacon),
   (0x098, .writeClxcon), (0x09A, .writeIntena), (0x09C, .writeIntreq), (0x09E, .writeAdkcon)]

/-- Rule R67, offsets `$0A0` to `$0DA`. -/
def regRowsAudio : List (Nat × (RegOp → Instr)) :=
  [(0x0A0, .writeAud0lch), (0x0A2, .writeAud0lcl), (0x0A4, .writeAud0len), (0x0A6, .writeAud0per),
   (0x0A8, .writeAud0vol), (0x0AA, .writeAud0dat), (0x0B0, .writeAud1lch), (0x0B2, .writeAud1lcl),
   (0x0B4, .writeAud1len), (0x0B6, .writeAud1per), (0x0B8, .writeAud1vol), (0x0BA, .writeAud1dat),
   (0x0C0, .writeAud2lch), (0x0C2, .writeAud2lcl), (0x0C4, .writeAud2len), (0x0C6, .writeAud2per),
   (0x0C8, .writeAud2vol), (0x0CA, .writeAud2dat), (0x0D0, .writeAud3lch), (0x0D2, .writeAud3lcl),
   (0x0D4, .writeAud3len), (0x0D6, .writeAud3per), (0x0D8, .writeAud3vol), (0x0DA, .writeAud3dat)]

/-- Rule R67, offsets `$0E0` to `$11A`. -/
def regRowsBitplane : List (Nat × (RegOp → Instr)) :=
  [(0x0E0, .writeBpl1pth), (0x0E2, .writeBpl1ptl), (0x0E4, .writeBpl2pth), (0x0E6, .writeBpl2ptl),
   (0x0E8, .writeBpl3pth), (0x0EA, .writeBpl3ptl), (0x0EC, .writeBpl4pth), (0x0EE, .writeBpl4ptl),
   (0x0F0, .writeBpl5pth), (0x0F2, .writeBpl5ptl), (0x0F4, .writeBpl6pth), (0x0F6, .writeBpl6ptl),
   (0x100, .writeBplcon0), (0x102, .writeBplcon1), (0x104, .writeBplcon2), (0x108, .writeBpl1mod),
   (0x10A, .writeBpl2mod), (0x110, .writeBpl1dat), (0x112, .writeBpl2dat), (0x114, .writeBpl3dat),
   (0x116, .writeBpl4dat), (0x118, .writeBpl5dat), (0x11A, .writeBpl6dat)]

/-- Rule R67, offsets `$120` to `$13E`. -/
def regRowsSpritePointer : List (Nat × (RegOp → Instr)) :=
  [(0x120, .writeSpr0pth), (0x122, .writeSpr0ptl), (0x124, .writeSpr1pth), (0x126, .writeSpr1ptl),
   (0x128, .writeSpr2pth), (0x12A, .writeSpr2ptl), (0x12C, .writeSpr3pth), (0x12E, .writeSpr3ptl),
   (0x130, .writeSpr4pth), (0x132, .writeSpr4ptl), (0x134, .writeSpr5pth), (0x136, .writeSpr5ptl),
   (0x138, .writeSpr6pth), (0x13A, .writeSpr6ptl), (0x13C, .writeSpr7pth), (0x13E, .writeSpr7ptl)]

/-- Rule R67, offsets `$140` to `$15E`. -/
def regRowsSpriteLow : List (Nat × (RegOp → Instr)) :=
  [(0x140, .writeSpr0pos), (0x142, .writeSpr0ctl), (0x144, .writeSpr0data), (0x146, .writeSpr0datb),
   (0x148, .writeSpr1pos), (0x14A, .writeSpr1ctl), (0x14C, .writeSpr1data), (0x14E, .writeSpr1datb),
   (0x150, .writeSpr2pos), (0x152, .writeSpr2ctl), (0x154, .writeSpr2data), (0x156, .writeSpr2datb),
   (0x158, .writeSpr3pos), (0x15A, .writeSpr3ctl), (0x15C, .writeSpr3data), (0x15E, .writeSpr3datb)]

/-- Rule R67, offsets `$160` to `$17E`. -/
def regRowsSpriteHigh : List (Nat × (RegOp → Instr)) :=
  [(0x160, .writeSpr4pos), (0x162, .writeSpr4ctl), (0x164, .writeSpr4data), (0x166, .writeSpr4datb),
   (0x168, .writeSpr5pos), (0x16A, .writeSpr5ctl), (0x16C, .writeSpr5data), (0x16E, .writeSpr5datb),
   (0x170, .writeSpr6pos), (0x172, .writeSpr6ctl), (0x174, .writeSpr6data), (0x176, .writeSpr6datb),
   (0x178, .writeSpr7pos), (0x17A, .writeSpr7ctl), (0x17C, .writeSpr7data), (0x17E, .writeSpr7datb)]

/-- Rule R67, offsets `$180` to `$19E`. -/
def regRowsColourLow : List (Nat × (RegOp → Instr)) :=
  [(0x180, .writeColor00), (0x182, .writeColor01), (0x184, .writeColor02), (0x186, .writeColor03),
   (0x188, .writeColor04), (0x18A, .writeColor05), (0x18C, .writeColor06), (0x18E, .writeColor07),
   (0x190, .writeColor08), (0x192, .writeColor09), (0x194, .writeColor10), (0x196, .writeColor11),
   (0x198, .writeColor12), (0x19A, .writeColor13), (0x19C, .writeColor14), (0x19E, .writeColor15)]

/-- Rule R67, offsets `$1A0` to `$1BE`. -/
def regRowsColourHigh : List (Nat × (RegOp → Instr)) :=
  [(0x1A0, .writeColor16), (0x1A2, .writeColor17), (0x1A4, .writeColor18), (0x1A6, .writeColor19),
   (0x1A8, .writeColor20), (0x1AA, .writeColor21), (0x1AC, .writeColor22), (0x1AE, .writeColor23),
   (0x1B0, .writeColor24), (0x1B2, .writeColor25), (0x1B4, .writeColor26), (0x1B6, .writeColor27),
   (0x1B8, .writeColor28), (0x1BA, .writeColor29), (0x1BC, .writeColor30), (0x1BE, .writeColor31)]

/-- The map of rule R67: the instruction of each named offset. -/
def regRows : List (Nat × (RegOp → Instr)) :=
  regRowsSystem ++ regRowsBlitter ++ regRowsControl ++ regRowsAudio ++ regRowsBitplane ++ regRowsSpritePointer ++ regRowsSpriteLow ++ regRowsSpriteHigh ++ regRowsColourLow ++ regRowsColourHigh

/-- The register operation at an offset (rule R160; an offset in no row is of class `-`, rule R462). -/
def decodeRegister (off : RegOff) (op : RegOp) : Instr :=
  match regRows.find? (fun r => r.1 == off.toNat) with
  | some r => r.2 op
  | none => .accessUnimplementedOffset off op

/-! ### Programs -/

/-- Rule R321, shapes 0 to 3. -/
def programRows0To3 : List Instr :=
  [.bltprog0FilloffAccurate, .bltprog0FilloffFast,
   .bltprog0FillonAccurate, .bltprog0FillonFast,
   .bltprog1FilloffAccurate, .bltprog1FilloffFast,
   .bltprog1FillonAccurate, .bltprog1FillonFast,
   .bltprog2FilloffAccurate, .bltprog2FilloffFast,
   .bltprog2FillonAccurate, .bltprog2FillonFast,
   .bltprog3FilloffAccurate, .bltprog3FilloffFast,
   .bltprog3FillonAccurate, .bltprog3FillonFast]

/-- Rule R321, shapes 4 to 7. -/
def programRows4To7 : List Instr :=
  [.bltprog4FilloffAccurate, .bltprog4FilloffFast,
   .bltprog4FillonAccurate, .bltprog4FillonFast,
   .bltprog5FilloffAccurate, .bltprog5FilloffFast,
   .bltprog5FillonAccurate, .bltprog5FillonFast,
   .bltprog6FilloffAccurate, .bltprog6FilloffFast,
   .bltprog6FillonAccurate, .bltprog6FillonFast,
   .bltprog7FilloffAccurate, .bltprog7FilloffFast,
   .bltprog7FillonAccurate, .bltprog7FillonFast]

/-- Rule R321, shapes 8 to B. -/
def programRows8ToB : List Instr :=
  [.bltprog8FilloffAccurate, .bltprog8FilloffFast,
   .bltprog8FillonAccurate, .bltprog8FillonFast,
   .bltprog9FilloffAccurate, .bltprog9FilloffFast,
   .bltprog9FillonAccurate, .bltprog9FillonFast,
   .bltprogAFilloffAccurate, .bltprogAFilloffFast,
   .bltprogAFillonAccurate, .bltprogAFillonFast,
   .bltprogBFilloffAccurate, .bltprogBFilloffFast,
   .bltprogBFillonAccurate, .bltprogBFillonFast]

/-- Rule R321, shapes C to F. -/
def programRowsCToF : List Instr :=
  [.bltprogCFilloffAccurate, .bltprogCFilloffFast,
   .bltprogCFillonAccurate, .bltprogCFillonFast,
   .bltprogDFilloffAccurate, .bltprogDFilloffFast,
   .bltprogDFillonAccurate, .bltprogDFillonFast,
   .bltprogEFilloffAccurate, .bltprogEFilloffFast,
   .bltprogEFillonAccurate, .bltprogEFillonFast,
   .bltprogFFilloffAccurate, .bltprogFFilloffFast,
   .bltprogFFillonAccurate, .bltprogFFillonFast]

/-- The 64 entries of BLT_PROGRAM in the order `4*M + 2*fill + fast` (rule R321). -/
def programRows : List Instr :=
  programRows0To3 ++ programRows4To7 ++ programRows8ToB ++ programRowsCToF

/-- The place of an entry in BLT_PROGRAM. -/
def programIndex (shape : BitVec 4) (fill fast : Bool) : Nat :=
  4 * shape.toNat + 2 * fill.toNat + fast.toNat

/-- The instruction of an entry of BLT_PROGRAM (rule R321). -/
def decodeProgram (shape : BitVec 4) (fill fast : Bool) : Instr :=
  programRows.getD (programIndex shape fill fast) .bltprogLine

/-! ### Codes -/

/-- The decoder: total, rejecting by name. -/
def decode : Code → Except DecodeError Instr
  | .copper ir1 ir2 => .ok (decodeCopper ir1 ir2)
  | .micro w => decodeMicro w
  | .register off op => .ok (decodeRegister off op)
  | .program shape fill fast => .ok (decodeProgram shape fill fast)
  | .lineProgram => .ok .bltprogLine
  | .fastPath => .ok .bltFastpath

/-! ### The encoder -/

/-- The words of an instruction, written from the encoding rules (R150-R157, R160, R321). -/
def encode : Instr → Code
  | .copperMove ra data => .copper (moveIr1 ra) data
  | .copperWait vp hp bfd ve he => .copper (waitIr1 vp hp) (waitIr2 bfd ve he 0#1)
  | .copperSkip vp hp bfd ve he => .copper (waitIr1 vp hp) (waitIr2 bfd ve he 1#1)
  | .uopBusidle rest => .micro (MicroAction.busidle.bit ||| rest)
  | .uopBus rest => .micro (MicroAction.bus.bit ||| rest)
  | .uopWriteD rest => .micro (MicroAction.writeD.bit ||| rest)
  | .uopFetchA rest => .micro (MicroAction.fetchA.bit ||| rest)
  | .uopFetchB rest => .micro (MicroAction.fetchB.bit ||| rest)
  | .uopFetchC rest => .micro (MicroAction.fetchC.bit ||| rest)
  | .uopHoldA rest => .micro (MicroAction.holdA.bit ||| rest)
  | .uopHoldB rest => .micro (MicroAction.holdB.bit ||| rest)
  | .uopHoldD rest => .micro (MicroAction.holdD.bit ||| rest)
  | .uopFill rest => .micro (MicroAction.fill.bit ||| rest)
  | .uopBltdone rest => .micro (MicroAction.bltdone.bit ||| rest)
  | .uopRepeat rest => .micro (MicroAction.repeat.bit ||| rest)
  | .uopNothing => .micro 0#16
  | .bltprogFFilloffAccurate => .program 0xF#4 false false
  | .bltprogFFilloffFast => .program 0xF#4 false true
  | .bltprogFFillonAccurate => .program 0xF#4 true false
  | .bltprogFFillonFast => .program 0xF#4 true true
  | .bltprogEFilloffAccurate => .program 0xE#4 false false
  | .bltprogEFilloffFast => .program 0xE#4 false true
  | .bltprogEFillonAccurate => .program 0xE#4 true false
  | .bltprogEFillonFast => .program 0xE#4 true true
  | .bltprogDFilloffAccurate => .program 0xD#4 false false
  | .bltprogDFilloffFast => .program 0xD#4 false true
  | .bltprogDFillonAccurate => .program 0xD#4 true false
  | .bltprogDFillonFast => .program 0xD#4 true true
  | .bltprogCFilloffAccurate => .program 0xC#4 false false
  | .bltprogCFilloffFast => .program 0xC#4 false true
  | .bltprogCFillonAccurate => .program 0xC#4 true false
  | .bltprogCFillonFast => .program 0xC#4 true true
  | .bltprogBFilloffAccurate => .program 0xB#4 false false
  | .bltprogBFilloffFast => .program 0xB#4 false true
  | .bltprogBFillonAccurate => .program 0xB#4 true false
  | .bltprogBFillonFast => .program 0xB#4 true true
  | .bltprogAFilloffAccurate => .program 0xA#4 false false
  | .bltprogAFilloffFast => .program 0xA#4 false true
  | .bltprogAFillonAccurate => .program 0xA#4 true false
  | .bltprogAFillonFast => .program 0xA#4 true true
  | .bltprog9FilloffAccurate => .program 0x9#4 false false
  | .bltprog9FilloffFast => .program 0x9#4 false true
  | .bltprog9FillonAccurate => .program 0x9#4 true false
  | .bltprog9FillonFast => .program 0x9#4 true true
  | .bltprog8FilloffAccurate => .program 0x8#4 false false
  | .bltprog8FilloffFast => .program 0x8#4 false true
  | .bltprog8FillonAccurate => .program 0x8#4 true false
  | .bltprog8FillonFast => .program 0x8#4 true true
  | .bltprog7FilloffAccurate => .program 0x7#4 false false
  | .bltprog7FilloffFast => .program 0x7#4 false true
  | .bltprog7FillonAccurate => .program 0x7#4 true false
  | .bltprog7FillonFast => .program 0x7#4 true true
  | .bltprog6FilloffAccurate => .program 0x6#4 false false
  | .bltprog6FilloffFast => .program 0x6#4 false true
  | .bltprog6FillonAccurate => .program 0x6#4 true false
  | .bltprog6FillonFast => .program 0x6#4 true true
  | .bltprog5FilloffAccurate => .program 0x5#4 false false
  | .bltprog5FilloffFast => .program 0x5#4 false true
  | .bltprog5FillonAccurate => .program 0x5#4 true false
  | .bltprog5FillonFast => .program 0x5#4 true true
  | .bltprog4FilloffAccurate => .program 0x4#4 false false
  | .bltprog4FilloffFast => .program 0x4#4 false true
  | .bltprog4FillonAccurate => .program 0x4#4 true false
  | .bltprog4FillonFast => .program 0x4#4 true true
  | .bltprog3FilloffAccurate => .program 0x3#4 false false
  | .bltprog3FilloffFast => .program 0x3#4 false true
  | .bltprog3FillonAccurate => .program 0x3#4 true false
  | .bltprog3FillonFast => .program 0x3#4 true true
  | .bltprog2FilloffAccurate => .program 0x2#4 false false
  | .bltprog2FilloffFast => .program 0x2#4 false true
  | .bltprog2FillonAccurate => .program 0x2#4 true false
  | .bltprog2FillonFast => .program 0x2#4 true true
  | .bltprog1FilloffAccurate => .program 0x1#4 false false
  | .bltprog1FilloffFast => .program 0x1#4 false true
  | .bltprog1FillonAccurate => .program 0x1#4 true false
  | .bltprog1FillonFast => .program 0x1#4 true true
  | .bltprog0FilloffAccurate => .program 0x0#4 false false
  | .bltprog0FilloffFast => .program 0x0#4 false true
  | .bltprog0FillonAccurate => .program 0x0#4 true false
  | .bltprog0FillonFast => .program 0x0#4 true true
  | .bltprogLine => .lineProgram
  | .bltFastpath => .fastPath
  | .writeBltddat op => .register 0x000#9 op
  | .readDmaconr op => .register 0x002#9 op
  | .readVposr op => .register 0x004#9 op
  | .readVhposr op => .register 0x006#9 op
  | .writeDskdatr op => .register 0x008#9 op
  | .readJoy0dat op => .register 0x00A#9 op
  | .readJoy1dat op => .register 0x00C#9 op
  | .readClxdat op => .register 0x00E#9 op
  | .readAdkconr op => .register 0x010#9 op
  | .readPot0dat op => .register 0x012#9 op
  | .readPot1dat op => .register 0x014#9 op
  | .readPotgor op => .register 0x016#9 op
  | .readSerdatr op => .register 0x018#9 op
  | .readDskbytr op => .register 0x01A#9 op
  | .readIntenar op => .register 0x01C#9 op
  | .readIntreqr op => .register 0x01E#9 op
  | .writeDskpth op => .register 0x020#9 op
  | .writeDskptl op => .register 0x022#9 op
  | .writeDsklen op => .register 0x024#9 op
  | .writeDskdat op => .register 0x026#9 op
  | .writeRefptr op => .register 0x028#9 op
  | .writeVposw op => .register 0x02A#9 op
  | .writeVhposw op => .register 0x02C#9 op
  | .writeCopcon op => .register 0x02E#9 op
  | .writeSerdat op => .register 0x030#9 op
  | .writeSerper op => .register 0x032#9 op
  | .writePotgo op => .register 0x034#9 op
  | .writeJoytest op => .register 0x036#9 op
  | .writeStrequ op => .register 0x038#9 op
  | .writeStrvbl op => .register 0x03A#9 op
  | .writeStrhor op => .register 0x03C#9 op
  | .writeStrlong op => .register 0x03E#9 op
  | .writeBltcon0 op => .register 0x040#9 op
  | .writeBltcon1 op => .register 0x042#9 op
  | .writeBltafwm op => .register 0x044#9 op
  | .writeBltalwm op => .register 0x046#9 op
  | .writeBltcpth op => .register 0x048#9 op
  | .writeBltcptl op => .register 0x04A#9 op
  | .writeBltbpth op => .register 0x04C#9 op
  | .writeBltbptl op => .register 0x04E#9 op
  | .writeBltapth op => .register 0x050#9 op
  | .writeBltaptl op => .register 0x052#9 op
  | .writeBltdpth op => .register 0x054#9 op
  | .writeBltdptl op => .register 0x056#9 op
  | .writeBltsize op => .register 0x058#9 op
  | .writeBltcmod op => .register 0x060#9 op
  | .writeBltbmod op => .register 0x062#9 op
  | .writeBltamod op => .register 0x064#9 op
  | .writeBltdmod op => .register 0x066#9 op
  | .writeBltcdat op => .register 0x070#9 op
  | .writeBltbdat op => .register 0x072#9 op
  | .writeBltadat op => .register 0x074#9 op
  | .writeDsksync op => .register 0x07E#9 op
  | .writeCop1lch op => .register 0x080#9 op
  | .writeCop1lcl op => .register 0x082#9 op
  | .writeCop2lch op => .register 0x084#9 op
  | .writeCop2lcl op => .register 0x086#9 op
  | .writeCopjmp1 op => .register 0x088#9 op
  | .writeCopjmp2 op => .register 0x08A#9 op
  | .writeCopins op => .register 0x08C#9 op
  | .writeDiwstrt op => .register 0x08E#9 op
  | .writeDiwstop op => .register 0x090#9 op
  | .writeDdfstrt op => .register 0x092#9 op
  | .writeDdfstop op => .register 0x094#9 op
  | .writeDmacon op => .register 0x096#9 op
  | .writeClxcon op => .register 0x098#9 op
  | .writeIntena op => .register 0x09A#9 op
  | .writeIntreq op => .register 0x09C#9 op
  | .writeAdkcon op => .register 0x09E#9 op
  | .writeAud0lch op => .register 0x0A0#9 op
  | .writeAud0lcl op => .register 0x0A2#9 op
  | .writeAud0len op => .register 0x0A4#9 op
  | .writeAud0per op => .register 0x0A6#9 op
  | .writeAud0vol op => .register 0x0A8#9 op
  | .writeAud0dat op => .register 0x0AA#9 op
  | .writeAud1lch op => .register 0x0B0#9 op
  | .writeAud1lcl op => .register 0x0B2#9 op
  | .writeAud1len op => .register 0x0B4#9 op
  | .writeAud1per op => .register 0x0B6#9 op
  | .writeAud1vol op => .register 0x0B8#9 op
  | .writeAud1dat op => .register 0x0BA#9 op
  | .writeAud2lch op => .register 0x0C0#9 op
  | .writeAud2lcl op => .register 0x0C2#9 op
  | .writeAud2len op => .register 0x0C4#9 op
  | .writeAud2per op => .register 0x0C6#9 op
  | .writeAud2vol op => .register 0x0C8#9 op
  | .writeAud2dat op => .register 0x0CA#9 op
  | .writeAud3lch op => .register 0x0D0#9 op
  | .writeAud3lcl op => .register 0x0D2#9 op
  | .writeAud3len op => .register 0x0D4#9 op
  | .writeAud3per op => .register 0x0D6#9 op
  | .writeAud3vol op => .register 0x0D8#9 op
  | .writeAud3dat op => .register 0x0DA#9 op
  | .writeBpl1pth op => .register 0x0E0#9 op
  | .writeBpl1ptl op => .register 0x0E2#9 op
  | .writeBpl2pth op => .register 0x0E4#9 op
  | .writeBpl2ptl op => .register 0x0E6#9 op
  | .writeBpl3pth op => .register 0x0E8#9 op
  | .writeBpl3ptl op => .register 0x0EA#9 op
  | .writeBpl4pth op => .register 0x0EC#9 op
  | .writeBpl4ptl op => .register 0x0EE#9 op
  | .writeBpl5pth op => .register 0x0F0#9 op
  | .writeBpl5ptl op => .register 0x0F2#9 op
  | .writeBpl6pth op => .register 0x0F4#9 op
  | .writeBpl6ptl op => .register 0x0F6#9 op
  | .writeBplcon0 op => .register 0x100#9 op
  | .writeBplcon1 op => .register 0x102#9 op
  | .writeBplcon2 op => .register 0x104#9 op
  | .writeBpl1mod op => .register 0x108#9 op
  | .writeBpl2mod op => .register 0x10A#9 op
  | .writeBpl1dat op => .register 0x110#9 op
  | .writeBpl2dat op => .register 0x112#9 op
  | .writeBpl3dat op => .register 0x114#9 op
  | .writeBpl4dat op => .register 0x116#9 op
  | .writeBpl5dat op => .register 0x118#9 op
  | .writeBpl6dat op => .register 0x11A#9 op
  | .writeSpr0pth op => .register 0x120#9 op
  | .writeSpr0ptl op => .register 0x122#9 op
  | .writeSpr1pth op => .register 0x124#9 op
  | .writeSpr1ptl op => .register 0x126#9 op
  | .writeSpr2pth op => .register 0x128#9 op
  | .writeSpr2ptl op => .register 0x12A#9 op
  | .writeSpr3pth op => .register 0x12C#9 op
  | .writeSpr3ptl op => .register 0x12E#9 op
  | .writeSpr4pth op => .register 0x130#9 op
  | .writeSpr4ptl op => .register 0x132#9 op
  | .writeSpr5pth op => .register 0x134#9 op
  | .writeSpr5ptl op => .register 0x136#9 op
  | .writeSpr6pth op => .register 0x138#9 op
  | .writeSpr6ptl op => .register 0x13A#9 op
  | .writeSpr7pth op => .register 0x13C#9 op
  | .writeSpr7ptl op => .register 0x13E#9 op
  | .writeSpr0pos op => .register 0x140#9 op
  | .writeSpr0ctl op => .register 0x142#9 op
  | .writeSpr0data op => .register 0x144#9 op
  | .writeSpr0datb op => .register 0x146#9 op
  | .writeSpr1pos op => .register 0x148#9 op
  | .writeSpr1ctl op => .register 0x14A#9 op
  | .writeSpr1data op => .register 0x14C#9 op
  | .writeSpr1datb op => .register 0x14E#9 op
  | .writeSpr2pos op => .register 0x150#9 op
  | .writeSpr2ctl op => .register 0x152#9 op
  | .writeSpr2data op => .register 0x154#9 op
  | .writeSpr2datb op => .register 0x156#9 op
  | .writeSpr3pos op => .register 0x158#9 op
  | .writeSpr3ctl op => .register 0x15A#9 op
  | .writeSpr3data op => .register 0x15C#9 op
  | .writeSpr3datb op => .register 0x15E#9 op
  | .writeSpr4pos op => .register 0x160#9 op
  | .writeSpr4ctl op => .register 0x162#9 op
  | .writeSpr4data op => .register 0x164#9 op
  | .writeSpr4datb op => .register 0x166#9 op
  | .writeSpr5pos op => .register 0x168#9 op
  | .writeSpr5ctl op => .register 0x16A#9 op
  | .writeSpr5data op => .register 0x16C#9 op
  | .writeSpr5datb op => .register 0x16E#9 op
  | .writeSpr6pos op => .register 0x170#9 op
  | .writeSpr6ctl op => .register 0x172#9 op
  | .writeSpr6data op => .register 0x174#9 op
  | .writeSpr6datb op => .register 0x176#9 op
  | .writeSpr7pos op => .register 0x178#9 op
  | .writeSpr7ctl op => .register 0x17A#9 op
  | .writeSpr7data op => .register 0x17C#9 op
  | .writeSpr7datb op => .register 0x17E#9 op
  | .writeColor00 op => .register 0x180#9 op
  | .writeColor01 op => .register 0x182#9 op
  | .writeColor02 op => .register 0x184#9 op
  | .writeColor03 op => .register 0x186#9 op
  | .writeColor04 op => .register 0x188#9 op
  | .writeColor05 op => .register 0x18A#9 op
  | .writeColor06 op => .register 0x18C#9 op
  | .writeColor07 op => .register 0x18E#9 op
  | .writeColor08 op => .register 0x190#9 op
  | .writeColor09 op => .register 0x192#9 op
  | .writeColor10 op => .register 0x194#9 op
  | .writeColor11 op => .register 0x196#9 op
  | .writeColor12 op => .register 0x198#9 op
  | .writeColor13 op => .register 0x19A#9 op
  | .writeColor14 op => .register 0x19C#9 op
  | .writeColor15 op => .register 0x19E#9 op
  | .writeColor16 op => .register 0x1A0#9 op
  | .writeColor17 op => .register 0x1A2#9 op
  | .writeColor18 op => .register 0x1A4#9 op
  | .writeColor19 op => .register 0x1A6#9 op
  | .writeColor20 op => .register 0x1A8#9 op
  | .writeColor21 op => .register 0x1AA#9 op
  | .writeColor22 op => .register 0x1AC#9 op
  | .writeColor23 op => .register 0x1AE#9 op
  | .writeColor24 op => .register 0x1B0#9 op
  | .writeColor25 op => .register 0x1B2#9 op
  | .writeColor26 op => .register 0x1B4#9 op
  | .writeColor27 op => .register 0x1B6#9 op
  | .writeColor28 op => .register 0x1B8#9 op
  | .writeColor29 op => .register 0x1BA#9 op
  | .writeColor30 op => .register 0x1BC#9 op
  | .writeColor31 op => .register 0x1BE#9 op
  | .accessUnimplementedOffset off op => .register off op

/-! ### Bytes -/

/-- Which encoding a byte string is read in: the agent that fetches it decides. -/
inductive Space
  | copper | micro | registerRead | registerWrite | program
  deriving DecidableEq, Repr

/-- A big-endian word (rule R106). -/
def wordOfBytes (hi lo : Byte) : Word := hi ++ lo

/-- The bytes of a big-endian word (rule R106). -/
def bytesOfWord (w : Word) : List Byte := [w.extractLsb' 8 8, w.extractLsb' 0 8]

/-- The code of a program selector byte: the index of the entry, 64 for the line program, 65 for the fast path. -/
def codeOfSelector (b : Byte) : Option Code :=
  if b.toNat < 64 then some (.program (b.extractLsb' 2 4) (b.getLsbD 1) (b.getLsbD 0))
  else if b.toNat = 64 then some .lineProgram
  else if b.toNat = 65 then some .fastPath
  else none

/-- Decoding a byte string, with the bytes that follow: two words of a Copper instruction, a
micro-instruction word, the offset word of a register read, the offset and value words of a register
write, or a program selector. -/
def decodeBytes : Space → List Byte → Except DecodeError (Instr × List Byte)
  | .copper, a :: b :: c :: d :: rest => .ok (decodeCopper (wordOfBytes a b) (wordOfBytes c d), rest)
  | .micro, a :: b :: rest => (decodeMicro (wordOfBytes a b)).map (fun i => (i, rest))
  | .registerRead, a :: b :: rest =>
    if (wordOfBytes a b &&& 0xFE01#16) = 0#16 then
      .ok (decodeRegister ((wordOfBytes a b).extractLsb' 0 9) .read, rest)
    else .error (.badOffset (wordOfBytes a b))
  | .registerWrite, a :: b :: c :: d :: rest =>
    if (wordOfBytes a b &&& 0xFE01#16) = 0#16 then
      .ok (decodeRegister ((wordOfBytes a b).extractLsb' 0 9) (.write (wordOfBytes c d)), rest)
    else .error (.badOffset (wordOfBytes a b))
  | .program, a :: rest =>
    match codeOfSelector a with
    | some c => (decode c).map (fun i => (i, rest))
    | none => .error (.badSelector a)
  | _, _ => .error .truncated

/-- The space and bytes of a code. -/
def bytesOfCode : Code → Space × List Byte
  | .copper ir1 ir2 => (.copper, bytesOfWord ir1 ++ bytesOfWord ir2)
  | .micro w => (.micro, bytesOfWord w)
  | .register off .read => (.registerRead, bytesOfWord (off.setWidth 16))
  | .register off (.write v) => (.registerWrite, bytesOfWord (off.setWidth 16) ++ bytesOfWord v)
  | .program shape fill fast =>
    (.program, [(0#2 ++ shape ++ BitVec.ofBool fill ++ BitVec.ofBool fast : BitVec 8)])
  | .lineProgram => (.program, [64#8])
  | .fastPath => (.program, [65#8])

/-! ### The words of spec/opcode_table.json -/

/-- The offsets whose row of the table is a READ: classes `R` and `R,C` (rule R67). -/
def readOffsets : List Nat :=
  [0x002, 0x004, 0x006, 0x00A, 0x00C, 0x00E, 0x010, 0x012, 0x014, 0x016, 0x018, 0x01A, 0x01C, 0x01E]

/-- The code of a word numbered as the table numbers it.  Its rows of more than 16 bits are Copper
instructions, numbered `IR1<<16 | IR2`; rows of one byte are action bits; a row of two bytes is the offset
of a register operation where it is an even value up to `$1FE`, with the access its row names and the value
word zero, and a micro-instruction word otherwise (the table does not tell the encodings apart: log entry 4). -/
def codeOfTableWord (nbits w : Nat) : Code :=
  if 16 < nbits then
    .copper (BitVec.ofNat 16 (w / 0x10000)) (BitVec.ofNat 16 w)
  else if nbits ≤ 8 then
    .micro (BitVec.ofNat 16 w)
  else if w ≤ 0x1FE ∧ w % 2 = 0 then
    .register (BitVec.ofNat 9 w) (if readOffsets.contains w then .read else .write 0#16)
  else
    .micro (BitVec.ofNat 16 w)

/-- The instruction the decoder reads from a table row's word. -/
def decodeTableWord (nbits w : Nat) : Option Instr :=
  match decode (codeOfTableWord nbits w) with
  | .ok i => some i
  | .error _ => none

end Sys2Proof
end

