-- ==== Sys2Proof/Config.lean ====
section
/-! DEFINITION. The configuration of rule R9 (plain data, fixed for a run) and the free values: constants
without a body for what the spec leaves to a collaborator or does not state. -/

namespace Sys2Proof

/-- `MODEL` (rule R9). -/
inductive Model | a500 | a1000 | a2000
  deriving DecidableEq, Repr

/-- `VIDEO` (rule R9, decision D2). -/
inductive Video | pal | ntsc
  deriving DecidableEq, Repr

/-- `COPPER_PARITY` (rule R9, decision D4). -/
inductive CopperParity | odd | even
  deriving DecidableEq, Repr

/-- `BLITTER_SLOTS` (rule R9, decision D5). -/
inductive BlitterSlots | evenOnly | any
  deriving DecidableEq, Repr

/-- `BLITTER_ACCURACY` (rules R9, R350). -/
inductive Accuracy | fast | accurate
  deriving DecidableEq, Repr

/-- The base of the extended ROM, page `$E0` or `$F0` (rule R9). -/
inductive ExtBase | e0 | f0
  deriving DecidableEq, Repr

/-- A ROM image: its size and its bytes as a sorted list of cells; an unlisted byte is 0 (log entry 2). -/
structure Image where
  size  : Nat
  bytes : List Host.Cell
  deriving DecidableEq, Repr

/-- `SLOT_MAP`: the fixed DMA slots of a line (rules R9, R214, decision D3). -/
structure SlotMap where
  /-- Slots of the refresh user. -/
  refresh : List Nat
  /-- Slots of the disk user. -/
  disk    : List Nat
  /-- The slot of each audio channel. -/
  audio   : Vector Nat 4
  /-- The first and second slot of each sprite. -/
  sprite  : Vector (Nat × Nat) 8
  deriving DecidableEq, Repr

/-- The configuration (rule R9). -/
structure Cfg where
  model           : Model
  chipSize        : Nat
  slowSize        : Nat
  fastSize        : Nat
  rtcPresent      : Bool
  cpuSpeed        : Nat
  accuracy        : Accuracy
  rom             : Option Image
  extRom          : Option (ExtBase × Image)
  bootRom         : Option Image
  spriteEmulation : Bool
  collisionCheck  : Bool
  video           : Video
  lineSlots       : Nat
  frameLinesLong  : Nat
  frameLinesShort : Nat
  copperParity    : CopperParity
  blitterSlots    : BlitterSlots
  slotMap         : SlotMap
  /-- `BLT_PROGRAM`: entry `4*M + 2*fill + fast` holds the words of that program, body then tail (rule R321). -/
  bltProgram      : List (List Word)
  dmaAddrBits     : Nat
  deriving DecidableEq, Repr

/-- FREE VALUE: the word a collaborator answers to the n-th read dispatched to it (CIA, RTC, AUTOCONF,
`R,C` registers; rules R115, R463, decision D64: "a draw for the model: any value"). Log entry 10. -/
opaque Config.collaboratorRead : Nat → Word

/-- FREE VALUE: the colour of a playfield index 32..63 outside EHB and HAM, for which rule R425 has no
colour register ("index 0..31"). Log entry 11. -/
opaque Config.colourBeyondTable : Nat → BitVec 12

end Sys2Proof
end

