-- ==== Sys2Proof/Machine/Defaults.lean ====
section
/-! DEFINITION. The default values of the configuration parameters: the slot map of rule R214, the
micro-program table of rule R321, the line program of rule R346, and the default configuration. -/

namespace Sys2Proof

/-- The default slot map, rule R214. -/
def SlotMap.default : SlotMap where
  refresh := [0x01, 0x03, 0x05, 0xE2]
  disk    := [0x07, 0x09, 0x0B]
  audio   := #v[0x0D, 0x0F, 0x11, 0x13]
  sprite  := #v[(0x15, 0x17), (0x19, 0x1B), (0x1D, 0x1F), (0x21, 0x23),
                (0x25, 0x27), (0x29, 0x2B), (0x2D, 0x2F), (0x31, 0x33)]

/-- Rule R321, shapes 0 to 3: for each shape fill off accurate, fill off fast, fill on accurate, fill on fast. -/
def bltProgramShapes0To3 : List (List Word) :=
  [[0x001, 0x9C1, 0x400],
   [0x001, 0x801, 0x400],
   [0x001, 0xBC1, 0x400],
   [0x001, 0x801, 0x400],
   [0x004, 0x001, 0x9C1, 0x001, 0x404],
   [0x002, 0x001, 0x801, 0x001, 0x402],
   [0x004, 0x001, 0xBC1, 0x001, 0x404],
   [0x002, 0x001, 0x801, 0x001, 0x402],
   [0x020, 0x9C1, 0x400],
   [0x002, 0x801, 0x400],
   [0x020, 0xBC1, 0x400],
   [0x002, 0x801, 0x400],
   [0x020, 0x9C4, 0x001, 0x404],
   [0x002, 0x802, 0x001, 0x402],
   [0x020, 0xBC4, 0x001, 0x404],
   [0x002, 0x802, 0x001, 0x402]]

/-- Rule R321, shapes 4 to 7: for each shape fill off accurate, fill off fast, fill on accurate, fill on fast. -/
def bltProgramShapes4To7 : List (List Word) :=
  [[0x010, 0x9C1, 0x400],
   [0x002, 0x801, 0x400],
   [0x010, 0xBC1, 0x400],
   [0x002, 0x801, 0x400],
   [0x010, 0x001, 0x9C4, 0x001, 0x404],
   [0x002, 0x001, 0x802, 0x001, 0x402],
   [0x010, 0x001, 0xBC4, 0x001, 0x404],
   [0x002, 0x001, 0x802, 0x001, 0x402],
   [0x010, 0x020, 0x9C1, 0x400],
   [0x002, 0x002, 0x801, 0x400],
   [0x010, 0x020, 0xBC1, 0x400],
   [0x002, 0x002, 0x801, 0x400],
   [0x010, 0x020, 0x001, 0x9C4, 0x001, 0x404],
   [0x002, 0x002, 0x001, 0x802, 0x001, 0x402],
   [0x010, 0x020, 0x001, 0xBC4, 0x001, 0x404],
   [0x002, 0x002, 0x001, 0x802, 0x001, 0x402]]

/-- Rule R321, shapes 8 to B: for each shape fill off accurate, fill off fast, fill on accurate, fill on fast. -/
def bltProgramShapes8ToB : List (List Word) :=
  [[0x9C8, 0x400],
   [0x802, 0x400],
   [0xBC8, 0x400],
   [0x802, 0x400],
   [0x008, 0x9C4, 0x001, 0x404],
   [0x002, 0x802, 0x001, 0x402],
   [0x008, 0xBC4, 0x001, 0x404],
   [0x002, 0x802, 0x001, 0x402],
   [0x008, 0x9E0, 0x400],
   [0x002, 0x802, 0x400],
   [0x008, 0xBE0, 0x400],
   [0x002, 0x802, 0x400],
   [0x008, 0x020, 0x9C4, 0x001, 0x404],
   [0x002, 0x002, 0x802, 0x001, 0x402],
   [0x008, 0x020, 0xBC4, 0x001, 0x404],
   [0x002, 0x002, 0x802, 0x001, 0x402]]

/-- Rule R321, shapes C to F: for each shape fill off accurate, fill off fast, fill on accurate, fill on fast. -/
def bltProgramShapesCToF : List (List Word) :=
  [[0x008, 0x9D0, 0x400],
   [0x002, 0x802, 0x400],
   [0x008, 0xBD0, 0x400],
   [0x002, 0x802, 0x400],
   [0x008, 0x010, 0x9C4, 0x001, 0x404],
   [0x002, 0x002, 0x802, 0x001, 0x402],
   [0x008, 0x010, 0xBC4, 0x001, 0x404],
   [0x002, 0x002, 0x802, 0x001, 0x402],
   [0x008, 0x010, 0x9E0, 0x400],
   [0x002, 0x002, 0x802, 0x400],
   [0x008, 0x010, 0xBE0, 0x400],
   [0x002, 0x002, 0x802, 0x400],
   [0x008, 0x010, 0x020, 0x9C4, 0x001, 0x404],
   [0x002, 0x002, 0x002, 0x802, 0x001, 0x402],
   [0x008, 0x010, 0x020, 0xBC4, 0x001, 0x404],
   [0x002, 0x002, 0x002, 0x802, 0x001, 0x402]]

/-- The default `BLT_PROGRAM` table (rule R321; every word as spec/opcode_table.json lists it). -/
def defaultBltProgram : List (List Word) :=
  bltProgramShapes0To3 ++ bltProgramShapes4To7 ++ bltProgramShapes8ToB ++ bltProgramShapesCToF

/-- The line bus program, body `002 001 002 801` and tail `400` (rule R346). -/
def lineProgram : List Word := [0x002, 0x001, 0x002, 0x801, 0x400]

/-- The default configuration: the common start configuration of spec/95_test_vectors.md with the
defaults of rule R9 (log entry 1). -/
def Cfg.default : Cfg where
  model           := .a500
  chipSize        := 0x80000
  slowSize        := 0
  fastSize        := 0
  rtcPresent      := true
  cpuSpeed        := 1
  accuracy        := .accurate
  rom             := some { size := 0x80000, bytes := [] }
  extRom          := none
  bootRom         := none
  spriteEmulation := true
  collisionCheck  := true
  video           := .pal
  lineSlots       := 227
  frameLinesLong  := 313
  frameLinesShort := 312
  copperParity    := .odd
  blitterSlots    := .evenOnly
  slotMap         := SlotMap.default
  bltProgram      := defaultBltProgram
  dmaAddrBits     := 19

end Sys2Proof
end

