-- ==== Sys2Proof/Machine/Regions.lean ====
section
/-! DEFINITION. The region table of the address decoder (rules R101-R105). -/

namespace Sys2Proof.Machine

/-- Region kinds (rule R101). -/
inductive Region
  | unmapped | chip | fast | slow | rom | wom | ext | cia | rtc | custom | autoconf
  deriving DecidableEq, Repr

/-- The region of page `p` for a configuration, the overlay line and the WOM lock: the lines of rule R104,
a later line overriding an earlier one, so the last line that applies is tested first.  (The lock changes no
line of the table, rule R103.) -/
def pageRegion (c : Cfg) (ovl _womLocked : Bool) (p : Nat) : Region :=
  if ovl ∧ p ≤ 0x07 then .rom
  else if c.bootRom.isSome ∧ 0xFC ≤ p ∧ p ≤ 0xFF then .wom
  else if c.bootRom.isSome ∧ 0xF8 ≤ p ∧ p ≤ 0xFB then .rom
  else if c.rom.isSome ∧ ¬ c.bootRom.isSome ∧ 0xF8 ≤ p ∧ p ≤ 0xFF then .rom
  else if (c.extRom.map Prod.fst) = some .f0 ∧ 0xF0 ≤ p ∧ p ≤ 0xF7 then .ext
  else if 0xE8 ≤ p ∧ p ≤ 0xEF then .autoconf
  else if (c.extRom.map Prod.fst) = some .e0 ∧ 0xE0 ≤ p ∧ p ≤ 0xE7 then .ext
  else if p = 0xDF then .custom
  else if p = 0xDC ∧ c.rtcPresent then .rtc
  else if 0xC0 ≤ p ∧ p < 0xC0 + c.slowSize / 0x10000 then .slow
  else if p = 0xBF then .cia
  else if 0x20 ≤ p ∧ p < 0x20 + c.fastSize / 0x10000 then .fast
  else if p ≤ 0x1F then .chip
  else .unmapped

/-- The 256-entry table `memSrc` (rules R102-R104). -/
def buildMemSrc (c : Cfg) (ovl womLocked : Bool) : List Region :=
  (List.range 256).map (pageRegion c ovl womLocked)

/-- The smallest power of two that is at least `n`. -/
def powerOfTwoCeil (n : Nat) : Nat := if n ≤ 1 then n else 2 ^ (Nat.log2 (n - 1) + 1)

/-- The image that a ROM page reads: the boot ROM when it is present, else the Kickstart ROM (rule R104). -/
def romImage (c : Cfg) : Image := (c.bootRom.orElse (fun _ => c.rom)).getD { size := 0, bytes := [] }

/-- The extended ROM image (rule R104). -/
def extImage (c : Cfg) : Image := (c.extRom.map Prod.snd).getD { size := 0, bytes := [] }

/-- The size of the writable-once memory, 256 KiB (rule R65). -/
def womSize : Nat := 0x40000

/-- The base byte address of a region (rule R105). -/
def regionBase (c : Cfg) : Region → Nat
  | .fast => 0x200000
  | .slow => 0xC00000
  | .rom  => 0xF80000
  | .wom  => 0xFC0000
  | .ext  => if (c.extRom.map Prod.fst) = some .e0 then 0xE00000 else 0xF00000
  | .unmapped | .chip | .cia | .rtc | .custom | .autoconf => 0

/-- The size `S` whose mask selects a byte of a region (rule R105); 0 for a region that is no storage. -/
def regionSize (c : Cfg) : Region → Nat
  | .chip => c.chipSize
  | .fast => powerOfTwoCeil c.fastSize
  | .slow => c.slowSize
  | .rom  => (romImage c).size
  | .wom  => womSize
  | .ext  => (extImage c).size
  | .unmapped | .cia | .rtc | .custom | .autoconf => 0

/-- The byte offset within a region: `(addr - base) & (S - 1)` in 24-bit arithmetic (rule R105; the sizes are
powers of two, so the mask is a remainder). -/
def regionOffset (c : Cfg) (r : Region) (a : Addr) : Nat :=
  ((a.toNat + 0x1000000 - regionBase c r) % 0x1000000) % regionSize c r

end Sys2Proof.Machine
end

