-- ==== Sys2Proof/Machine/State.lean ====
section
/-! DEFINITION. The machine state: everything spec/10_state.md gives the core, as plain data, with the
inputs and outputs of the collaborators (rule R6) as queues and lines; the reasons a step can stop; and the
state after reset.  INVENTORY.md lists every field with its rule and reset value. -/

namespace Sys2Proof.Machine

/-! ### Outcomes -/

/-- Why the machine stops with a fault.  Rule R541 names the one fatal condition the model can meet; every
other error kind of spec/60_exceptions.md is a record, not a stop. -/
inductive Fault
  /-- Raised by the host input `powerOn false` of Machine/Lifecycle.lean: "memory allocation failure at
  power-on" (rules R541, R562).  Safe: the machine stops where the source calls the condition fatal. -/
  | memoryAllocationFailure
  deriving DecidableEq, Repr

/-- Why a step has no meaning. -/
inductive Refusal
  /-- Raised by an arm of Dispatch.lean whose instruction has no meaning yet.  Safe. -/
  | notModelled (mnemonic : String)
  /-- Raised by Machine/Slot.lean when the running micro-program holds a word that breaks rule R158
  ("refused by the model (it is not hardware behaviour)", rules R158, R163).  Safe. -/
  | illFormedMicroWord (word : Word)
  deriving DecidableEq, Repr

/-! ### Clock, beam and bus -/

/-- Bus owners (rules R16, R33). -/
inductive BusOwner
  | none | cpu | copper | blitter | bitplane | sprite | disk | audio | refresh
  deriving DecidableEq, Repr

/-- The beam (rule R32). -/
structure Beam where
  v     : BitVec 9
  h     : BitVec 8
  /-- `LOF`: the current frame is a long frame. -/
  lof   : Bool
  frame : BitVec 64
  deriving DecidableEq, Repr

/-- The record of one owned slot of the current line: `busOwner[slot]` and `busValue[slot]` (rule R33). -/
structure BusEntry where
  slot  : Nat
  owner : BusOwner
  value : Word
  deriving DecidableEq, Repr

/-- The bus record and the arbiter's bookkeeping (rule R33).  A slot without an entry has owner NONE, and its
`busValue` is undefined and never read (rules R203, R122). -/
structure Bus where
  line         : List BusEntry
  reqCPU       : Bool
  cpuWaitSlots : Nat
  cpuClock     : BitVec 64
  deriving DecidableEq, Repr

/-! ### Event scheduler -/

/-- Event ids (rules R34, R210); `other` stands for the collaborators' and the host's ids. -/
inductive EventId
  | none | regWrite | copStep | copWake | bltStep | bplFetch | other (id : Word)
  deriving DecidableEq, Repr

/-- One event slot: `triggerCycle` (a signed 64-bit value), `id` and `data` (rule R34). -/
structure Event where
  trigger : BitVec 64
  id      : EventId
  data    : BitVec 64
  deriving DecidableEq, Repr

/-- `INT64_MAX`, the trigger of an idle slot (rule R34). -/
def neverTrigger : BitVec 64 := 0x7FFFFFFFFFFFFFFF#64

/-- An idle event slot (rule R34). -/
def Event.idle : Event := { trigger := neverTrigger, id := .none, data := 0 }

/-- The event slots in dispatch order and `primaryTrigger` (rule R34). -/
structure Events where
  slots          : Vector Event 13
  primaryTrigger : BitVec 64
  deriving DecidableEq, Repr

/-! ### Interrupt and DMA control -/

/-- `DMACON`, `INTENA`, `INTREQ` (rules R35, R37) and the level last pushed to the CPU glue (rule R526). -/
structure Control where
  dmacon : Word
  intena : Word
  intreq : Word
  ipl    : BitVec 3
  deriving DecidableEq, Repr

/-! ### Copper -/

/-- Copper states (rule R39). -/
inductive CopState
  | fetch1 | fetch2 | execute | waiting | skipped | halted
  deriving DecidableEq, Repr

/-- The Copper (rules R38, R39). -/
structure Copper where
  cdang    : Bool
  cop1lc   : Ptr
  cop2lc   : Ptr
  pc       : Ptr
  ir1      : Word
  ir2      : Word
  st       : CopState
  skipNext : Bool
  deriving DecidableEq, Repr

/-! ### Blitter -/

/-- The Blitter (rules R36, R40-R47). -/
structure Blitter where
  bltcon0   : Word
  bltcon1   : Word
  bltafwm   : Word
  bltalwm   : Word
  bltapt    : Ptr
  bltbpt    : Ptr
  bltcpt    : Ptr
  bltdpt    : Ptr
  bltamod   : Word
  bltbmod   : Word
  bltcmod   : Word
  bltdmod   : Word
  anew      : Word
  bnew      : Word
  aold      : Word
  bold      : Word
  chold     : Word
  ahold     : Word
  bhold     : Word
  dhold     : Word
  /-- Words remaining in the current row. -/
  x         : Nat
  /-- Rows remaining. -/
  y         : Nat
  /-- `W` latched from BLTSIZE. -/
  w         : Nat
  /-- `H` latched from BLTSIZE. -/
  hgt       : Nat
  colA      : Nat
  colB      : Nat
  colC      : Nat
  colD      : Nat
  /-- `bltpc`. -/
  pc        : Nat
  /-- The selected program, none when no blit runs. -/
  prog      : Option (List Word)
  lockD     : Bool
  fillCarry : Bool
  /-- `BBUSY`. -/
  busy      : Bool
  /-- `BZERO`. -/
  zero      : Bool
  lineFirst : Bool
  oneDot    : Bool
  deriving DecidableEq, Repr

/-! ### Display and fetch windows, bitplanes -/

/-- The windows (rules R48-R50) and what a line latches of its fetch window (rule R243). -/
structure Window where
  diwstrt      : Word
  diwstop      : Word
  ddfstrt      : Word
  ddfstop      : Word
  diwV         : Bool
  diwH         : Bool
  ddfActive    : Bool
  fetchUnitPos : BitVec 3
  /-- The line has reached its `ddfStart`; the next three are the values latched there (rule R243). -/
  ddfLatched   : Bool
  ddfHires     : Bool
  ddfStart     : Nat
  ddfBlocks    : Nat
  deriving DecidableEq, Repr

/-- The bitplanes (rules R51-R54, R387): `planeBits[p]` lists `planeBit[p+1][0], planeBit[p+1][1], …`; a
coordinate beyond its end is 0.  `bBuffer` (rule R389) is the view of these lists. -/
structure Bitplanes where
  bplcon0     : Word
  bplcon1     : Word
  bplcon2     : Word
  bplpt       : Vector Ptr 6
  bpl1mod     : Word
  bpl2mod     : Word
  bpldat      : Vector Word 6
  shiftReg    : Vector Word 6
  loadPending : Bool
  planeBits   : Vector (List Bool) 6
  deriving DecidableEq, Repr

/-! ### Sprites -/

/-- Sprite DMA states (rule R57). -/
inductive SprDma
  | idle | fetchCtl | waitStart | fetchData
  deriving DecidableEq, Repr

/-- One sprite (rules R55-R57). -/
structure Sprite where
  pos        : Word
  ctl        : Word
  data       : Word
  datb       : Word
  armed      : Bool
  attach     : Bool
  ssra       : Word
  ssrb       : Word
  active     : Bool
  shiftCount : Nat
  ptr        : Ptr
  dma        : SprDma
  vstart     : BitVec 9
  vstop      : BitVec 9
  deriving DecidableEq, Repr

/-- A sprite at reset (rules R55-R57). -/
def Sprite.reset : Sprite :=
  { pos := 0, ctl := 0, data := 0, datb := 0, armed := false, attach := false, ssra := 0, ssrb := 0,
    active := false, shiftCount := 0, ptr := 0, dma := .idle, vstart := 0, vstop := 0 }

/-! ### Denise -/

/-- The replay copy of a sprite's registers (rule R383). -/
structure ReplaySprite where
  pos   : Word
  ctl   : Word
  data  : Word
  datb  : Word
  armed : Bool
  deriving DecidableEq, Repr

/-- The winning layer of a pixel, `zBuffer` (rules R63, R405). -/
inductive Layer
  | background | sprite (n : Nat) | playfield1 | playfield2
  deriving DecidableEq, Repr

/-- An entry of a register-change log (rule R62). -/
structure LogEntry where
  trigger : Int
  addr    : Nat
  value   : Word
  deriving DecidableEq, Repr

/-- Denise: collision registers, colour table, the replay copies, the logs and the line buffers
(rules R58-R63, R383, R427).  A line buffer's coordinates beyond its end are 0. -/
structure Denise where
  clxcon   : Word
  clxdat   : BitVec 15
  color    : Vector (BitVec 12) 32
  rBplcon0 : Word
  rBplcon1 : Word
  rBplcon2 : Word
  rSprite  : Vector ReplaySprite 8
  rColor   : Vector (BitVec 12) 32
  rDiwH    : Bool
  hamPrev  : BitVec 12
  bplLog   : List LogEntry
  colLog   : List LogEntry
  iBuffer  : List (BitVec 6)
  mBuffer  : List (BitVec 6)
  zBuffer  : List Layer
  deriving DecidableEq, Repr

/-- A frame buffer: the rows that have been written, in rising order, each with its pixels (rule R64; the
contents of the other rows are unspecified and the core never reads one). -/
abbrev FrameBuffer := List (Nat × List (BitVec 32))

/-- The frame buffers (rule R64). -/
structure Frames where
  longWorking  : FrameBuffer
  longStable   : FrameBuffer
  shortWorking : FrameBuffer
  shortStable  : FrameBuffer
  deriving DecidableEq, Repr

/-! ### Memory and records -/

/-- Storage: the bytes that differ from 0 at strictly rising offsets (log entry 2). -/
abbrev Memory := List Host.Cell

/-- Memory and decoder state (rule R65). -/
structure Mem where
  chip      : Memory
  slow      : Memory
  fast      : Memory
  wom       : Memory
  womLocked : Bool
  ovl       : Bool
  memSrc    : List Region
  deriving DecidableEq, Repr

/-- Why an access is flagged (rule R112). -/
inductive ViolationCause
  | oddAddress | unmapped | beyondFast
  deriving DecidableEq, Repr

/-- A flagged access: `{addr, width, kind}` (rule R66). -/
structure Violation where
  addr  : Addr
  /-- Width in bytes. -/
  width : Nat
  write : Bool
  cause : ViolationCause
  deriving DecidableEq, Repr

/-- The record of flagged and unimplemented accesses (rule R66). -/
structure Records where
  violations    : Nat
  lastViolation : Option Violation
  unimplemented : List Nat
  deriving DecidableEq, Repr

/-- A delayed register write waiting for its slot (rules R461, R466). -/
structure PendingWrite where
  due   : BitVec 64
  off   : Nat
  value : Word
  deriving DecidableEq, Repr

/-! ### The collaborators' interface -/

/-- An access of the CPU collaborator (rules R6, R100, R108).  `readLow` and the second word of a long write
are the halves still to come of a 32-bit access. -/
inductive CpuOp
  | read8 | read16 | read32 | write8 (v : Byte) | write16 (v : Word) | write32 (v : Long) | readLow (hi : Word)
  deriving DecidableEq, Repr

/-- An access with the cost, in slots at speed 1, that the instruction reports between the CPU's clock and the
access's issue (rules R205, R222). -/
structure CpuAccess where
  cost : Nat
  addr : BitVec 32
  op   : CpuOp
  deriving DecidableEq, Repr

/-- An instruction that the CPU collaborator executes (rules R6, R205): its accesses, in order, and the slots it
consumes after the last of them.  The slots it reports are the costs before its accesses, the slots of the
accesses, and this cost; an instruction without an access reports this cost alone (log entry 20). -/
structure CpuInstr where
  accesses : List CpuAccess
  cost     : Nat
  deriving DecidableEq, Repr

/-- The CPU port: the instructions to come, oldest first, the one in progress with the accesses it has still to
make, and the value the last read returned. -/
structure Cpu where
  queue    : List CpuInstr
  readData : Long
  deriving DecidableEq, Repr

/-- The disk collaborator's lines: whether it wants its slot, the direction, its pointer and the word it
writes (rules R212, R231, decision D64). -/
structure DiskPort where
  wants : Bool
  write : Bool
  ptr   : Ptr
  value : Word
  deriving DecidableEq, Repr

/-- An audio channel's lines (rules R212, R231, decision D64). -/
structure AudioPort where
  wants : Bool
  ptr   : Ptr
  deriving DecidableEq, Repr

/-- The interrupt sources of the collaborators (rules R523, R524). -/
inductive IrqSource
  | tbe | dskblk | ports | aud0 | aud1 | aud2 | aud3 | rbf | dsksyn | exter
  deriving DecidableEq, Repr

/-- What the outside world can do to the core (rule R6 and spec/70_reset_and_hazards.md section 1). -/
inductive Input
  /-- CIA-A drives the overlay line (rule R116). -/
  | overlay (level : Bool)
  /-- The boot collaborator locks the WOM (rule R113). -/
  | womLock
  /-- A collaborator raises its interrupt (rule R523). -/
  | irq (source : IrqSource)
  | disk (port : DiskPort)
  | audio (channel : Fin 4) (port : AudioPort)
  /-- The CPU collaborator executes instructions (rules R6, R205). -/
  | cpu (instructions : List CpuInstr)
  /-- A collaborator or the host schedules an event in a slot of its own (rules R206, R210). -/
  | schedule (slot : Fin 13) (trigger : BitVec 64) (id : Word)
  /-- The host configures the machine (rules R9, R10). -/
  | configure (c : Cfg)
  /-- The host powers the machine on; `memory` says whether the allocation succeeds (rules R562, R541). -/
  | powerOn (memory : Bool)
  | reset
  | powerOff
  deriving DecidableEq, Repr

/-- An input and the slots still to pass before it arrives (after the one before it). -/
structure TimedInput where
  wait  : Nat
  input : Input
  deriving DecidableEq, Repr

/-- Messages to the host (rules R10, R562-R564). -/
inductive Message
  | config | romMissing | powerOn | memLayout | reset | powerOff
  deriving DecidableEq, Repr

/-- The collaborator an address selects (rule R115): within the CIA page CIA-A when `addr[12] = 0` and CIA-B when
`addr[13] = 0` (both, or none, where both bits are alike), with the register number `addr[11:8]`. -/
inductive IoTarget
  | cia (ciaA ciaB : Bool) (register : BitVec 4)
  | rtc
  | autoconf
  deriving DecidableEq, Repr

/-- An operation handed to a collaborator, a word a DMA read gave it, or an event of its own that is due (rules
R115, R209, R231, R463). -/
inductive Forward
  | regRead (off : Nat)
  | regWrite (off : Nat) (value : Word)
  | ioRead (target : IoTarget) (addr : Addr) (width : Nat)
  | ioWrite (target : IoTarget) (addr : Addr) (width : Nat) (value : Word)
  | event (slot : Fin 13) (id : EventId) (data : BitVec 64)
  | diskRead (value : Word)
  | audioRead (channel : Nat) (value : Word)
  deriving DecidableEq, Repr

/-- Inputs to come and outputs given, oldest first; the collaborators' lines; and `draws`, the model's own
count of collaborator reads, which indexes the free value `Config.collaboratorRead` (log entry 10). -/
structure Ext where
  inputs   : List TimedInput
  messages : List Message
  forwards : List Forward
  disk     : DiskPort
  audio    : Vector AudioPort 4
  draws    : Nat
  deriving DecidableEq, Repr

/-! ### The state -/

/-- The state of the core (rule R30), its configuration (a parameter no slot changes), and its interface. -/
structure State where
  cfg     : Cfg
  powered : Bool
  now     : BitVec 64
  beam    : Beam
  bus     : Bus
  events  : Events
  pending : List PendingWrite
  ctl     : Control
  copper  : Copper
  blitter : Blitter
  window  : Window
  bpl     : Bitplanes
  sprites : Vector Sprite 8
  denise  : Denise
  frames  : Frames
  mem     : Mem
  records : Records
  cpu     : Cpu
  ext     : Ext
  deriving DecidableEq, Repr

/-! ### Reset values (rule R560) -/

/-- The Copper at reset (rules R38, R39). -/
def Copper.reset : Copper :=
  { cdang := false, cop1lc := 0, cop2lc := 0, pc := 0, ir1 := 0, ir2 := 0, st := .fetch1, skipNext := false }

/-- The Blitter at reset (rules R36, R40-R47). -/
def Blitter.reset : Blitter :=
  { bltcon0 := 0, bltcon1 := 0, bltafwm := 0, bltalwm := 0,
    bltapt := 0, bltbpt := 0, bltcpt := 0, bltdpt := 0,
    bltamod := 0, bltbmod := 0, bltcmod := 0, bltdmod := 0,
    anew := 0, bnew := 0, aold := 0, bold := 0, chold := 0, ahold := 0, bhold := 0, dhold := 0,
    x := 0, y := 0, w := 0, hgt := 0, colA := 0, colB := 0, colC := 0, colD := 0,
    pc := 0, prog := none, lockD := false, fillCarry := false, busy := false, zero := false,
    lineFirst := false, oneDot := false }

/-- The windows at reset (rules R48-R50). -/
def Window.reset : Window :=
  { diwstrt := 0, diwstop := 0, ddfstrt := 0, ddfstop := 0, diwV := false, diwH := false,
    ddfActive := false, fetchUnitPos := 0, ddfLatched := false, ddfHires := false, ddfStart := 0,
    ddfBlocks := 0 }

/-- The bitplanes at reset (rules R51-R54). -/
def Bitplanes.reset : Bitplanes :=
  { bplcon0 := 0, bplcon1 := 0, bplcon2 := 0, bplpt := Vector.replicate 6 0, bpl1mod := 0, bpl2mod := 0,
    bpldat := Vector.replicate 6 0, shiftReg := Vector.replicate 6 0, loadPending := false,
    planeBits := Vector.replicate 6 [] }

/-- Denise at reset (rules R58-R63, R383). -/
def Denise.reset : Denise :=
  { clxcon := 0, clxdat := 0, color := Vector.replicate 32 0, rBplcon0 := 0, rBplcon1 := 0, rBplcon2 := 0,
    rSprite := Vector.replicate 8 { pos := 0, ctl := 0, data := 0, datb := 0, armed := false },
    rColor := Vector.replicate 32 0, rDiwH := false, hamPrev := 0, bplLog := [], colLog := [],
    iBuffer := [], mBuffer := [], zBuffer := [] }

/-- The collaborators' lines when they want nothing. -/
def DiskPort.quiet : DiskPort := { wants := false, write := false, ptr := 0, value := 0 }

/-- An audio channel that wants nothing. -/
def AudioPort.quiet : AudioPort := { wants := false, ptr := 0 }

/-- Every element at its reset value for a configuration (rules R560, R561): memory with nothing listed, no
input, no message, powered. -/
def State.cold (c : Cfg) : State where
  cfg     := c
  powered := true
  now     := 0
  beam    := { v := 0, h := 0, lof := true, frame := 0 }
  bus     := { line := [], reqCPU := false, cpuWaitSlots := 0, cpuClock := 0 }
  events  := { slots := Vector.replicate 13 Event.idle, primaryTrigger := neverTrigger }
  pending := []
  ctl     := { dmacon := 0, intena := 0, intreq := 0, ipl := 0 }
  copper  := Copper.reset
  blitter := Blitter.reset
  window  := Window.reset
  bpl     := Bitplanes.reset
  sprites := Vector.replicate 8 Sprite.reset
  denise  := Denise.reset
  frames  := { longWorking := [], longStable := [], shortWorking := [], shortStable := [] }
  mem     := { chip := [], slow := [], fast := [], wom := [], womLocked := false, ovl := true,
               memSrc := buildMemSrc c true false }
  records := { violations := 0, lastViolation := none, unimplemented := [] }
  cpu     := { queue := [], readData := 0 }
  ext     := { inputs := [], messages := [], forwards := [], disk := DiskPort.quiet,
               audio := Vector.replicate 4 AudioPort.quiet, draws := 0 }

/-- The machine right after power-on with the default configuration (rules R560-R562): every element at its
reset value, and the messages `POWER_ON`, `MEM_LAYOUT` given. -/
def State.reset : State :=
  { State.cold Cfg.default with
    ext := { (State.cold Cfg.default).ext with messages := [.powerOn, .memLayout] } }

end Sys2Proof.Machine
end

