-- ==== Sys2Proof/Machine/Operands.lean ====
section
/-! DEFINITION. Operand forms: pointers and modulos, the Copper's beam comparison operands, the Blitter's
masks, shifters, minterm and fill, and the fields of the display and sprite registers.  Pure functions of
words; each cites its rule. -/

namespace Sys2Proof.Machine

/-! ### DMA pointers (rules R118, R119, R161) -/

/-- `2^DMA_ADDR_BITS - 1`. -/
def dmaMask (c : Cfg) : Ptr := BitVec.ofNat 32 (2 ^ c.dmaAddrBits - 1)

/-- Adding an increment or a signed modulo to a pointer, modulo `2^DMA_ADDR_BITS` (rule R119). -/
def ptrAdd (c : Cfg) (p d : Ptr) : Ptr := (p + d) &&& dmaMask c

/-- The high half of a pointer: `ptr[DMA_ADDR_BITS-1:16] <- value[DMA_ADDR_BITS-17:0]` (rule R161). -/
def setPtrHigh (c : Cfg) (v : Word) (p : Ptr) : Ptr :=
  ((v.setWidth 32 <<< 16) &&& dmaMask c) ||| (p &&& 0xFFFF#32)

/-- The low half of a pointer: `ptr[15:1] <- value[15:1]`, `ptr[0] = 0` (rule R161). -/
def setPtrLow (v : Word) (p : Ptr) : Ptr := (p &&& 0xFFFF0000#32) ||| (v.setWidth 32 &&& 0xFFFE#32)

/-- A modulo as written: bit 0 forced to 0 (rules R46, R161). -/
def modulo (v : Word) : Word := v &&& 0xFFFE#16

/-- The signed byte offset of a modulo (rule R161). -/
def moduloOffset (m : Word) : Ptr := m.signExtend 32

/-- The Chip RAM offset of a DMA pointer: the pointer masked to an even address, then to Chip RAM
(rule R118; `CHIP_SIZE` is a power of two, so its mask is a remainder). -/
def chipOffset (c : Cfg) (p : Ptr) : Nat := (p &&& dmaMask c &&& 0xFFFFFFFE#32).toNat % c.chipSize

/-! ### Copper operands (rules R154, R271, R275) -/

/-- The 15-bit target `{VP, HP}`. -/
def copTarget (vp : BitVec 8) (hp : BitVec 7) : BitVec 15 := vp ++ hp

/-- The 15-bit mask `{1, VE, HE}`: VP bit 7 is always compared. -/
def copMask (ve he : BitVec 7) : BitVec 15 := (1#1 ++ ve ++ he : BitVec 15)

/-- The 15-bit beam `{v[7:0], h[7:1]}`. -/
def copBeam (v : BitVec 9) (h : BitVec 8) : BitVec 15 := (v.extractLsb' 0 8 ++ h.extractLsb' 1 7 : BitVec 15)

/-- The destination offset of a MOVE, `IR1 & $1FE` (rule R152). -/
def moveDest (ra : BitVec 8) : Nat := 2 * ra.toNat

/-- Protected MOVE destinations (rule R271). -/
def copProtected (dest : Nat) (cdang : Bool) : Bool := dest < 0x40 || (dest < 0x80 && !cdang)

/-! ### Blitter operands -/

/-- `BLTSIZE`: `W`, words per row, 0 meaning 64 (rules R43, R161). -/
def sizeW (s : Word) : Nat := if s.extractLsb' 0 6 = 0 then 64 else (s.extractLsb' 0 6).toNat

/-- `BLTSIZE`: `H`, rows, 0 meaning 1024 (rules R43, R161). -/
def sizeH (s : Word) : Nat := if s.extractLsb' 6 10 = 0 then 1024 else (s.extractLsb' 6 10).toNat

/-- `ASH` and `BSH`: bits 15:12 of `BLTCON0` and `BLTCON1` (rules R40, R41). -/
def shiftField (con : Word) : Nat := (con.extractLsb' 12 4).toNat

/-- The shape index `M = BLTCON0[11:8]` (rule R40). -/
def shapeOf (con0 : Word) : BitVec 4 := con0.extractLsb' 8 4

/-- `USEA`, `USEC`, `USED` (rule R40). -/
def useA (con0 : Word) : Bool := con0.getLsbD 11
/-- `USEC` (rule R40). -/
def useC (con0 : Word) : Bool := con0.getLsbD 9
/-- `USED` (rule R40). -/
def useD (con0 : Word) : Bool := con0.getLsbD 8

/-- `LF` (rule R40). -/
def mintermField (con0 : Word) : BitVec 8 := con0.extractLsb' 0 8

/-- `BLTCON1` area mode: `EFE`, `IFE`, `FCI`, `DESC`, `LINE` (rule R41). -/
def efe (con1 : Word) : Bool := con1.getLsbD 4
/-- `IFE` (rule R41). -/
def ife (con1 : Word) : Bool := con1.getLsbD 3
/-- `FCI` (rule R41). -/
def fci (con1 : Word) : Bool := con1.getLsbD 2
/-- `DESC` (rule R41). -/
def desc (con1 : Word) : Bool := con1.getLsbD 1
/-- `LINE` (rules R41, R42). -/
def lineMode (con1 : Word) : Bool := con1.getLsbD 0
/-- Fill is active when `EFE | IFE` (rules R41, R335). -/
def fillActive (con1 : Word) : Bool := efe con1 || ife con1

/-- `BLTCON1` line mode: `SIGN`, `SUD`, `SUL`, `AUL`, `SING` (rule R42). -/
def signBit (con1 : Word) : Bool := con1.getLsbD 6
/-- `SUD` (rule R42). -/
def sud (con1 : Word) : Bool := con1.getLsbD 4
/-- `SUL` (rule R42). -/
def sul (con1 : Word) : Bool := con1.getLsbD 3
/-- `AUL` (rule R42). -/
def aul (con1 : Word) : Bool := con1.getLsbD 2
/-- `SING` (rule R42). -/
def sing (con1 : Word) : Bool := con1.getLsbD 1

/-- Bits 15:12 of a control register replaced (rules R344, R347). -/
def setShiftField (con : Word) (n : BitVec 4) : Word := (con &&& 0x0FFF#16) ||| (n.setWidth 16 <<< 12)

/-- `BLTCON1.SIGN` replaced (rule R347). -/
def setSignBit (con1 : Word) (b : Bool) : Word :=
  (con1 &&& ~~~ 0x0040#16) ||| ((BitVec.ofBool b).setWidth 16 <<< 6)

/-- `incr`: +2, or -2 in descending mode (rule R304). -/
def blitIncr (con1 : Word) : Ptr := if desc con1 then (0xFFFFFFFE#32 : Ptr) else 2#32

/-- The signed end-of-row step: the modulo, or its negation in descending mode (rules R304, R305). -/
def blitModuloStep (con1 m : Word) : Ptr := if desc con1 then - moduloOffset m else moduloOffset m

/-- The A mask of the word being held (rule R309): first-word mask at `x = W`, last-word mask at `x = 1`. -/
def channelAMask (afwm alwm : Word) (x w : Nat) : Word :=
  (if x = w then afwm else 0xFFFF#16) &&& (if x = 1 then alwm else 0xFFFF#16)

/-- The barrel shifter (rules R307, R308): `new` and `old` concatenated in the order of the direction. -/
def barrelShift (descending : Bool) (new old : Word) (s : Nat) : Word :=
  if descending then ((new ++ old : BitVec 32) >>> (16 - s)).setWidth 16
  else ((old ++ new : BitVec 32) >>> s).setWidth 16

/-- The minterm as the OR, over the set bits `k` of `LF`, of `A_k & B_k & C_k` (rule R306). -/
def mintermTerm (a b c : Word) (lf : BitVec 8) (k : Nat) : Word :=
  if lf.getLsbD k then
    (if k.testBit 2 then a else ~~~ a) &&& (if k.testBit 1 then b else ~~~ b)
      &&& (if k.testBit 0 then c else ~~~ c)
  else 0#16

/-- `minterm(a, b, c, LF)` (rule R306). -/
def minterm (a b c : Word) (lf : BitVec 8) : Word :=
  mintermTerm a b c lf 0 ||| mintermTerm a b c lf 1 ||| mintermTerm a b c lf 2 ||| mintermTerm a b c lf 3
    ||| mintermTerm a b c lf 4 ||| mintermTerm a b c lf 5 ||| mintermTerm a b c lf 6
    ||| mintermTerm a b c lf 7

/-- One bit of the area fill (rule R311): the output bit and the carry after it. -/
def fillBit (exclusive carry d : Bool) : Bool × Bool :=
  if exclusive then (carry ^^ d, carry ^^ d) else (carry || d, carry ^^ d)

/-- The fill of bits `i`, `i+1`, … (`n` of them), with the carry in (rule R311): the word with those output
bits, and the carry out. -/
def fillBits (exclusive : Bool) (d : Word) : Nat → Nat → Bool → Word × Bool
  | 0, _, carry => (0#16, carry)
  | n + 1, i, carry =>
    let o := fillBit exclusive carry (d.getLsbD i)
    let r := fillBits exclusive d n (i + 1) o.2
    ((if o.1 then 1#16 <<< i else 0#16) ||| r.1, r.2)

/-- `Fill(d)` (rule R311), bit 0 first; the exclusive rule applies when `EFE = 1` (rule R335). -/
def fillWord (con1 : Word) (carry : Bool) (d : Word) : Word × Bool := fillBits (efe con1) d 16 0 carry

/-! ### Display registers -/

/-- `BPLCON0`: `HIRES`, `BPU'` (7 acting as 6), `HOMOD`, `DBLPF`, `LACE` (rules R51, R388). -/
def hires (con0 : Word) : Bool := con0.getLsbD 15
/-- `BPU' = min(BPU, 6)` (rules R51, R387). -/
def bpu (con0 : Word) : Nat := min (con0.extractLsb' 12 3).toNat 6
/-- `HOMOD` (rule R51). -/
def homod (con0 : Word) : Bool := con0.getLsbD 11
/-- `DBLPF` (rule R51). -/
def dblpf (con0 : Word) : Bool := con0.getLsbD 10
/-- `LACE` (rule R51). -/
def lace (con0 : Word) : Bool := con0.getLsbD 2

/-- The number of planes fetched and shown: at most 4 in high resolution (rules R225, R387, R388). -/
def planeCount (hi : Bool) (con0 : Word) : Nat := if hi then min (bpu con0) 4 else bpu con0

/-- `VSTART9 = {0, DIWSTRT[15:8]}` (rules R48, R240). -/
def vstart9 (diwstrt : Word) : BitVec 9 := (0#1 ++ diwstrt.extractLsb' 8 8 : BitVec 9)
/-- `VSTOP9 = {~DIWSTOP[15], DIWSTOP[15:8]}` (rules R48, R240). -/
def vstop9 (diwstop : Word) : BitVec 9 := (BitVec.ofBool (!diwstop.getLsbD 15) ++ diwstop.extractLsb' 8 8 : BitVec 9)

/-- The alignment of the fetch window (rule R243). -/
def ddfUnit (hi : Bool) : Nat := if hi then 4 else 8
/-- `ddfStart` (rule R243). -/
def ddfStartOf (hi : Bool) (ddfstrt : Word) : Nat := max ddfstrt.toNat 0x18 / ddfUnit hi * ddfUnit hi
/-- `ddfStop` (rule R243). -/
def ddfStopOf (ddfstop : Word) : Nat := min ddfstop.toNat 0xD8
/-- `N8`, the number of 8-slot blocks (rule R243). -/
def ddfBlocksOf (start stop : Nat) : Nat := if start ≤ stop then (stop - start) / 8 + 1 else 0

/-- The plane that position `k` of an 8-slot block fetches (rule R225), 0 for none. -/
def fetchPattern (hi : Bool) (k : Nat) : Nat :=
  if hi then [4, 2, 3, 1, 4, 2, 3, 1].getD k 0 else [0, 4, 6, 2, 0, 3, 5, 1].getD k 0

/-- `PF1H` and `PF2H` (rule R52): the scroll delay of plane `p` (1..6) in coordinates (rule R386). -/
def scrollDelay (con1 : Word) (p : Nat) : Nat :=
  2 * (if p % 2 = 1 then con1.extractLsb' 0 4 else con1.extractLsb' 4 4).toNat

/-- Priority codes, 5 to 7 acting as 4 (rules R53, R404). -/
def pf1Code (con2 : Word) : Nat := min (con2.extractLsb' 0 3).toNat 4
/-- `PF2P'` (rules R53, R404). -/
def pf2Code (con2 : Word) : Nat := min (con2.extractLsb' 3 3).toNat 4
/-- `PF2PRI` (rule R53). -/
def pf2Pri (con2 : Word) : Bool := con2.getLsbD 6

/-- The sprite start coordinate `4*SH[8:1] + 2*SH[0]` (rule R401). -/
def spriteStart (pos ctl : Word) : Nat := 4 * (pos.extractLsb' 0 8).toNat + 2 * (ctl.getLsbD 0).toNat

/-- A 12-bit colour as RGBA: each channel times 17, alpha `$FF` (rule R429). -/
def rgba (c : BitVec 12) : BitVec 32 :=
  ((c.extractLsb' 8 4).setWidth 8 * 17#8 ++ (c.extractLsb' 4 4).setWidth 8 * 17#8
    ++ (c.extractLsb' 0 4).setWidth 8 * 17#8 ++ 0xFF#8 : BitVec 32)

/-- The halved colour of extra-half-brite, `(c >> 1) & $777` (rule R426). -/
def halfBright (c : BitVec 12) : BitVec 12 := (c >>> 1) &&& 0x777#12

end Sys2Proof.Machine
end

