-- ==== Sys2Proof/Machine/Flags.lean ====
section
/-! DEFINITION. Flag and status computations: the set/clear convention, the interrupt level, the Copper's
comparison, the Blitter's zero flag, and the collision bits.  Pure functions; each cites its rule. -/

namespace Sys2Proof.Machine

/-- `SetClr(Rg, value, M)` (rule R470). -/
def setClr (reg value mask : Word) : Word :=
  if value.getLsbD 15 then reg ||| (value &&& mask) else reg &&& ~~~ (value &&& mask)

/-- The active requests, `act` of rule R525. -/
def activeRequests (intreq intena : Word) : Word :=
  if intena.getLsbD 14 then intreq &&& intena &&& 0x3FFF#16 else 0#16

/-- The interrupt level (rule R525). -/
def interruptLevel (intreq intena : Word) : BitVec 3 :=
  let act := activeRequests intreq intena
  if act &&& 0x2000#16 ≠ 0#16 then 6#3
  else if act &&& 0x1800#16 ≠ 0#16 then 5#3
  else if act &&& 0x0780#16 ≠ 0#16 then 4#3
  else if act &&& 0x0070#16 ≠ 0#16 then 3#3
  else if act &&& 0x0008#16 ≠ 0#16 then 2#3
  else if act &&& 0x0007#16 ≠ 0#16 then 1#3
  else 0#3

/-- `DMACONR`: `{0, BBUSY, BZERO, 0, 0, DMACON[10:0]}` (rule R474). -/
def dmaconr (dmacon : Word) (busy zero : Bool) : Word :=
  (0#1 ++ BitVec.ofBool busy ++ BitVec.ofBool zero ++ 0#2 ++ dmacon.extractLsb' 0 11 : BitVec 16)

/-- `VPOSR`: `{LOF, 0000000, 0000000, v[8]}` (rule R476). -/
def vposr (lof : Bool) (v : BitVec 9) : Word :=
  (BitVec.ofBool lof ++ 0#14 ++ v.extractLsb' 8 1 : BitVec 16)

/-- `VHPOSR`: `{v[7:0], h[7:0]}` (rule R476). -/
def vhposr (v : BitVec 9) (h : BitVec 8) : Word := (v.extractLsb' 0 8 ++ h : BitVec 16)

/-- The comparator of WAIT and SKIP (rule R275): the masked beam against the masked target, and the Blitter
finished unless `BFD = 1`. -/
def copCond (vp : BitVec 8) (hp : BitVec 7) (bfd : Bool) (ve he : BitVec 7)
    (v : BitVec 9) (h : BitVec 8) (busy : Bool) : Bool :=
  decide ((copTarget vp hp &&& copMask ve he).toNat ≤ (copBeam v h &&& copMask ve he).toNat)
    && (bfd || !busy)

/-- `BZERO` after a word is computed: cleared by a non-zero word (rules R36, R310). -/
def zeroAfter (zero : Bool) (d : Word) : Bool := if d = 0#16 then zero else false

/-- A plane takes part in a collision and does not match (rule R410): `ENBPp = CLXCON[5+p]`,
`MVBPp = CLXCON[p-1]`, with `b` the pixel's `bBuffer` value. -/
def planeMismatch (clxcon : Word) (b : BitVec 6) (p : Nat) : Bool :=
  clxcon.getLsbD (5 + p) && (b.getLsbD (p - 1) != clxcon.getLsbD (p - 1))

/-- `oddM` (rule R410). -/
def oddMatch (clxcon : Word) (b : BitVec 6) : Bool :=
  !(planeMismatch clxcon b 1 || planeMismatch clxcon b 3 || planeMismatch clxcon b 5)

/-- `evenM` (rule R410). -/
def evenMatch (clxcon : Word) (b : BitVec 6) : Bool :=
  !(planeMismatch clxcon b 2 || planeMismatch clxcon b 4 || planeMismatch clxcon b 6)

/-- `grp[q]` (rule R410), from the 2-bit values of the pair's even and odd sprite: `ENSP1, 3, 5, 7` are
`CLXCON[12..15]`. -/
def spriteGroup (clxcon : Word) (q : Nat) (evenSv oddSv : BitVec 2) : Bool :=
  evenSv != 0 || (clxcon.getLsbD (12 + q) && oddSv != 0)

/-- The collision bits of one pixel (rule R411). -/
def collisionBits (dual : Bool) (clxcon : Word) (b : BitVec 6) (g0 g1 g2 g3 : Bool) : BitVec 15 :=
  let o := oddMatch clxcon b
  let e := evenMatch clxcon b
  (BitVec.ofBool (g2 && g3) ++ BitVec.ofBool (g1 && g3) ++ BitVec.ofBool (g1 && g2)
    ++ BitVec.ofBool (g0 && g3) ++ BitVec.ofBool (g0 && g2) ++ BitVec.ofBool (g0 && g1)
    ++ BitVec.ofBool (e && g3) ++ BitVec.ofBool (e && g2) ++ BitVec.ofBool (e && g1) ++ BitVec.ofBool (e && g0)
    ++ BitVec.ofBool (o && g3) ++ BitVec.ofBool (o && g2) ++ BitVec.ofBool (o && g1) ++ BitVec.ofBool (o && g0)
    ++ BitVec.ofBool (dual && o && e) : BitVec 15)

end Sys2Proof.Machine
end

