-- ==== Sys2Proof/Machine/Ops.lean ====
section
/-! DEFINITION. The named operations over the state: outcomes, storage, Chip RAM, the bus record, the event
scheduler, the interrupt aggregator, the records and the collaborators' interface. -/

namespace Sys2Proof.Machine

/-! ### Outcomes -/

/-- What a meaning answers. -/
abbrev Result := Host.Outcome State Fault Refusal

/-- Sequencing: the second part runs on the state the first leaves; a stop stays. -/
def andThen (r : Result) (f : State → Result) : Result :=
  match r with
  | .next s => f s
  | .fault e => .fault e
  | .refused e => .refused e

/-! ### Storage (rules R105-R107; log entry 2) -/

/-- The byte at an offset; an unlisted byte is 0. -/
def Memory.byteAt : Memory → Nat → Byte
  | [], _ => 0#8
  | (a, b) :: m, n => if a = n then b else Memory.byteAt m n

/-- Storing a byte, keeping the canonical form: rising offsets and no listed 0. -/
def Memory.setByte : Memory → Nat → Byte → Memory
  | [], n, v => if v = 0#8 then [] else [(n, v)]
  | (a, b) :: m, n, v =>
    if n < a then (if v = 0#8 then (a, b) :: m else (n, v) :: (a, b) :: m)
    else if n = a then (if v = 0#8 then m else (n, v) :: m)
    else (a, b) :: Memory.setByte m n v

/-- Every listed offset is at least `lo`, the offsets rise strictly, and no listed byte is 0. -/
def Memory.wfFrom : Nat → Memory → Bool
  | _, [] => true
  | lo, (a, b) :: m => decide (lo ≤ a) && decide (b ≠ 0#8) && Memory.wfFrom (a + 1) m

/-- The canonical form of storage. -/
def Memory.wf (m : Memory) : Bool := Memory.wfFrom 0 m

/-- The big-endian word at an even offset (rule R106). -/
def Memory.wordAt (m : Memory) (n : Nat) : Word := wordOfBytes (m.byteAt n) (m.byteAt (n + 1))

/-- Storing a big-endian word at an even offset (rule R106). -/
def Memory.setWord (m : Memory) (n : Nat) (v : Word) : Memory :=
  (m.setByte n (v.extractLsb' 8 8)).setByte (n + 1) (v.extractLsb' 0 8)

/-- The word of `ChipRead16(ptr)` (rule R118). -/
def chipRead16 (p : Ptr) (s : State) : Word := s.mem.chip.wordAt (chipOffset s.cfg p)

/-! ### The bus record (rules R33, R219) -/

/-- The record of the current line with slot `h` given an owner and a value; owner NONE leaves no entry. -/
def busLine (line : List BusEntry) (h : Nat) (o : BusOwner) (v : Word) : List BusEntry :=
  let rest := line.filter (fun e => e.slot != h)
  if o = .none then rest else rest ++ [{ slot := h, owner := o, value := v }]

/-- `busOwner[h] <- o`, `busValue[h] <- v` for the current slot (rules R215, R219). -/
def recordBus (o : BusOwner) (v : Word) (s : State) : State :=
  { s with bus := { s.bus with line := busLine s.bus.line s.beam.h.toNat o v } }

/-- The record of a line with the value of slot `h` replaced, where the slot has an owner; without one
`busValue` is undefined (rule R33). -/
def valueLine (line : List BusEntry) (h : Nat) (v : Word) : List BusEntry :=
  line.map (fun e => if e.slot = h then { e with value := v } else e)

/-- `busValue[h] <- v` for the current slot, its owner kept (rules R118, R219). -/
def recordValue (v : Word) (s : State) : State :=
  { s with bus := { s.bus with line := valueLine s.bus.line s.beam.h.toNat v } }

/-- The effect of `ChipRead16(ptr)` on the bus record (rule R118); its word is `chipRead16`. -/
def chipFetch (p : Ptr) (s : State) : State := recordValue (chipRead16 p s) s

/-- `ChipWrite16(ptr, v)` (rule R118). -/
def chipWrite16 (p : Ptr) (v : Word) (s : State) : State :=
  recordValue v { s with mem := { s.mem with chip := s.mem.chip.setWord (chipOffset s.cfg p) v } }

/-- The entry of a slot of the current line, if it has an owner. -/
def busEntryAt (line : List BusEntry) (h : Nat) : Option BusEntry := line.find? (fun e => e.slot == h)

/-- A DMA owner: every owner but NONE and CPU (rule R122). -/
def BusOwner.isDma : BusOwner → Bool
  | .none | .cpu => false
  | .copper | .blitter | .bitplane | .sprite | .disk | .audio | .refresh => true

/-- The bus value that a read without a readable register returns: the value of the slot before the current
one when a DMA agent owned it, else `$FFFF` (rule R122).  For a read of an unmapped address, which is never granted
a slot, the current one is the slot in which the access completes (DESIGN CHOICE, log entry 36). -/
def busQuirk (s : State) : Word :=
  if s.beam.h = 0#8 then 0xFFFF#16
  else match busEntryAt s.bus.line (s.beam.h.toNat - 1) with
    | some e => if e.owner.isDma then e.value else 0xFFFF#16
    | none => 0xFFFF#16

/-! ### The event scheduler (rules R206-R209) -/

/-- The smaller of two triggers, as signed 64-bit values. -/
def earlier (a b : BitVec 64) : BitVec 64 := if b.slt a then b else a

/-- `primaryTrigger`: the earliest trigger of a slot that is not idle (rules R34, R208). -/
def primaryOf (slots : Vector Event 13) : BitVec 64 :=
  slots.toList.foldl (fun t e => if e.id = .none then t else earlier t e.trigger) neverTrigger

/-- The event slots with one slot replaced and the primary trigger recomputed (rules R206-R208). -/
def Events.put (ev : Events) (i : Fin 13) (e : Event) : Events :=
  { slots := ev.slots.set i e, primaryTrigger := primaryOf (ev.slots.set i e) }

/-- An event with its data scheduled (rules R206, R210). -/
def scheduleData (i : Fin 13) (t : BitVec 64) (id : EventId) (data : BitVec 64) (s : State) : State :=
  { s with events := s.events.put i { trigger := t, id := id, data := data } }

/-- `schedule_abs(S, t, id)` (rule R206). -/
def scheduleAbs (i : Fin 13) (t : BitVec 64) (id : EventId) (s : State) : State := scheduleData i t id 0 s

/-- `schedule_rel(S, delta, id)` (rule R206). -/
def scheduleRel (i : Fin 13) (delta : BitVec 64) (id : EventId) (s : State) : State :=
  scheduleAbs i (s.now + delta) id s

/-- `cancel(S)` (rule R207): the id and the trigger of an idle slot, the data kept. -/
def cancel (i : Fin 13) (s : State) : State :=
  { s with events := s.events.put i { s.events.slots[i] with trigger := neverTrigger, id := .none } }

/-- The event slot is due in the current slot (rule R209). -/
def eventDue (i : Fin 13) (s : State) : Bool :=
  decide (s.events.slots[i].id ≠ .none) && decide (s.events.slots[i].trigger.toInt ≤ (s.now.toNat : Int))

/-- The event slots the core uses (rule R34). -/
def slotReg : Fin 13 := 2
/-- COPPER (rule R34). -/
def slotCopper : Fin 13 := 3
/-- BLITTER (rule R34). -/
def slotBlitter : Fin 13 := 4
/-- BITPLANE (rule R34). -/
def slotBitplane : Fin 13 := 5

/-- The event slots served before arbitration: CIA-A, CIA-B, REG (rules R34, R132 step 1, R209). -/
def earlySlots : List (Fin 13) := [0, 1, 2]

/-- The event slots served after the owner's transfer: COPPER to SECONDARY (rules R34, R132 step 3, R209). -/
def lateSlots : List (Fin 13) := [3, 4, 5, 6, 7, 8, 9, 10, 11, 12]

/-- An event slot that belongs to a collaborator or the host (rule R210). -/
def foreignSlot (i : Fin 13) : Bool :=
  !(i == slotReg || i == slotCopper || i == slotBlitter || i == slotBitplane)

/-! ### The interrupt aggregator: the only guest-visible event the core raises (rules R520, R523-R526) -/

/-- Recompute the level and push it to the CPU glue (rules R525, R526). -/
def pushLevel (s : State) : State :=
  { s with ctl := { s.ctl with ipl := interruptLevel s.ctl.intreq s.ctl.intena } }

/-- `raise IRQ(bit)` (rule R523). -/
def raiseIrq (bit : Nat) (s : State) : State :=
  pushLevel { s with ctl := { s.ctl with intreq := s.ctl.intreq ||| (1#16 <<< bit) } }

/-- BLIT, `INTREQ` bit 6 (rule R524). -/
def irqBlit : Nat := 6
/-- VERTB, `INTREQ` bit 5 (rule R524). -/
def irqVertb : Nat := 5

/-- The `INTREQ` bit of a collaborator's source (rule R524). -/
def IrqSource.bit : IrqSource → Nat
  | .tbe => 0 | .dskblk => 1 | .ports => 3 | .aud0 => 7 | .aud1 => 8 | .aud2 => 9 | .aud3 => 10
  | .rbf => 11 | .dsksyn => 12 | .exter => 13

/-! ### Records (rules R66, R112, R462) -/

/-- Record an AddressViolation (rule R112). -/
def recordViolation (v : Violation) (s : State) : State :=
  { s with records := { s.records with violations := s.records.violations + 1, lastViolation := some v } }

/-- A set of register offsets with one more, in rising order. -/
def insertOffset : List Nat → Nat → List Nat
  | [], n => [n]
  | a :: l, n => if n < a then n :: a :: l else if n = a then a :: l else a :: insertOffset l n

/-- Add an offset to `unimplementedAccess` (rules R462, R490). -/
def recordUnimplemented (off : Nat) (s : State) : State :=
  { s with records := { s.records with unimplemented := insertOffset s.records.unimplemented off } }

/-! ### The collaborators and the host -/

/-- Hand an operation to a collaborator. -/
def forward (f : Forward) (s : State) : State :=
  { s with ext := { s.ext with forwards := s.ext.forwards ++ [f] } }

/-- Send a message to the host. -/
def notify (m : Message) (s : State) : State :=
  { s with ext := { s.ext with messages := s.ext.messages ++ [m] } }

/-- The word a collaborator answers to the next read dispatched to it: a free value (log entry 10). -/
def collaboratorWord (s : State) : Word := Config.collaboratorRead s.ext.draws

/-- One more read has been dispatched to a collaborator. -/
def countDraw (s : State) : State := { s with ext := { s.ext with draws := s.ext.draws + 1 } }

/-- The value the last CPU read returned. -/
def setReadData (v : Long) (s : State) : State := { s with cpu := { s.cpu with readData := v } }

/-! ### Update of one part of the state -/

/-- Update the Blitter. -/
def withBlitter (f : Blitter → Blitter) (s : State) : State := { s with blitter := f s.blitter }
/-- Update the Copper. -/
def withCopper (f : Copper → Copper) (s : State) : State := { s with copper := f s.copper }
/-- Update the windows. -/
def withWindow (f : Window → Window) (s : State) : State := { s with window := f s.window }
/-- Update the bitplanes. -/
def withBpl (f : Bitplanes → Bitplanes) (s : State) : State := { s with bpl := f s.bpl }
/-- Update one sprite. -/
def withSprite (n : Fin 8) (f : Sprite → Sprite) (s : State) : State :=
  { s with sprites := s.sprites.set n (f s.sprites[n]) }
/-- Update Denise. -/
def withDenise (f : Denise → Denise) (s : State) : State := { s with denise := f s.denise }
/-- Update DMACON, INTENA, INTREQ. -/
def withCtl (f : Control → Control) (s : State) : State := { s with ctl := f s.ctl }

/-- A DMA channel is enabled: its bit and DMAEN are both 1 (rule R35). -/
def dmaOn (bit : Nat) (s : State) : Bool := s.ctl.dmacon.getLsbD 9 && s.ctl.dmacon.getLsbD bit

end Sys2Proof.Machine
end

