-- ==== Sys2Proof/Machine/Blitter.lean ====
section
/-! DEFINITION. The Blitter: its data-path actions, the micro-instructions, the micro-program table entries,
the fast path, line mode and the launch (spec/42_blitter.md). -/

namespace Sys2Proof.Machine

/-! ### Data-path actions -/

/-- `Advance(X)` on a pointer and its column counter (rule R305). -/
def advance (c : Cfg) (con1 mod : Word) (w : Nat) (p : Ptr) (col : Nat) : Ptr × Nat :=
  if col - 1 = 0 then (ptrAdd c (ptrAdd c p (blitIncr con1)) (blitModuloStep con1 mod), w)
  else (ptrAdd c p (blitIncr con1), col - 1)

/-- `Advance(A)`. -/
def advanceA (c : Cfg) (b : Blitter) : Blitter :=
  let r := advance c b.bltcon1 b.bltamod b.w b.bltapt b.colA
  { b with bltapt := r.1, colA := r.2 }

/-- `Advance(B)`. -/
def advanceB (c : Cfg) (b : Blitter) : Blitter :=
  let r := advance c b.bltcon1 b.bltbmod b.w b.bltbpt b.colB
  { b with bltbpt := r.1, colB := r.2 }

/-- `Advance(C)`. -/
def advanceC (c : Cfg) (b : Blitter) : Blitter :=
  let r := advance c b.bltcon1 b.bltcmod b.w b.bltcpt b.colC
  { b with bltcpt := r.1, colC := r.2 }

/-- `Advance(D)`. -/
def advanceD (c : Cfg) (b : Blitter) : Blitter :=
  let r := advance c b.bltcon1 b.bltdmod b.w b.bltdpt b.colD
  { b with bltdpt := r.1, colD := r.2 }

/-- `WRITE_D` (rule R325): nothing is written while D is locked. -/
def writeD (s : State) : State :=
  if s.blitter.lockD then s
  else withBlitter (advanceD s.cfg) (chipWrite16 s.blitter.bltdpt s.blitter.dhold s)

/-- `FETCH_A` (rule R326). -/
def fetchA (s : State) : State :=
  withBlitter (fun b => advanceA s.cfg { b with anew := chipRead16 b.bltapt s }) (chipFetch s.blitter.bltapt s)

/-- `FETCH_B` (rule R327). -/
def fetchB (s : State) : State :=
  withBlitter (fun b => advanceB s.cfg { b with bnew := chipRead16 b.bltbpt s }) (chipFetch s.blitter.bltbpt s)

/-- `FETCH_C` (rule R328). -/
def fetchC (s : State) : State :=
  withBlitter (fun b => advanceC s.cfg { b with chold := chipRead16 b.bltcpt s }) (chipFetch s.blitter.bltcpt s)

/-- `HOLD_A` (rules R307, R309, R329). -/
def holdA (b : Blitter) : Blitter :=
  let am := b.anew &&& channelAMask b.bltafwm b.bltalwm b.x b.w
  { b with ahold := barrelShift (desc b.bltcon1) am b.aold (shiftField b.bltcon0), aold := am }

/-- `HOLD_B` (rules R308, R330). -/
def holdB (b : Blitter) : Blitter :=
  { b with bhold := barrelShift (desc b.bltcon1) b.bnew b.bold (shiftField b.bltcon1), bold := b.bnew }

/-- `HOLD_D`, with `FILL` or without (rules R310, R311, R331). -/
def holdD (fill : Bool) (b : Blitter) : Blitter :=
  let m := minterm b.ahold b.bhold b.chold (mintermField b.bltcon0)
  let r := if fill then fillWord b.bltcon1 b.fillCarry m else (m, b.fillCarry)
  { b with lockD := false, dhold := r.1, fillCarry := r.2, zero := zeroAfter b.zero r.1 }

/-- `REPEAT` (rule R332). -/
def blitRepeat (b : Blitter) : Blitter :=
  let b1 := { b with x := b.x - 1 }
  let b2 := if b1.x = 0 then { b1 with x := b1.w, y := b1.y - 1, fillCarry := fci b1.bltcon1 } else b1
  if b2.y = 0 then { b2 with pc := b2.pc + 1 } else { b2 with pc := 0 }

/-- `BLTDONE` (rule R318): clear BBUSY, raise BLIT, drop the program. -/
def bltDone (s : State) : State :=
  withBlitter (fun b => { b with prog := none, pc := 0 })
    (raiseIrq irqBlit (withBlitter (fun b => { b with busy := false }) s))

/-! ### Micro-instructions (rules R157, R159, R320) -/

/-- The actions that hold the bus (rule R322). -/
def needsBus (w : Word) : Bool :=
  hasAction w .bus || hasAction w .writeD || hasAction w .fetchA || hasAction w .fetchB || hasAction w .fetchC

/-- An operation done when the word has the action. -/
def whenAction (w : Word) (a : MicroAction) (f : State → State) (s : State) : State :=
  if hasAction w a then f s else s

/-- The transfer of a word, actions 2 and 3 of rule R159. -/
def dataTransfers (w : Word) (s : State) : State :=
  let s := whenAction w .writeD writeD s
  let s := whenAction w .fetchA fetchA s
  let s := whenAction w .fetchB fetchB s
  whenAction w .fetchC fetchC s

/-- The data actions of a word that need no bus, actions 4 to 7 of rule R159: the shifters, the minterm with the
fill, then the program counter (rules R320, R332). -/
def dataHolds (w : Word) (s : State) : State :=
  let s := whenAction w .holdA (withBlitter holdA) s
  let s := whenAction w .holdB (withBlitter holdB) s
  let s := whenAction w .holdD (withBlitter (holdD (hasAction w .fill))) s
  if hasAction w .repeat then withBlitter blitRepeat s
  else withBlitter (fun b => { b with pc := b.pc + 1 }) s

/-- The data actions of a word in the order of rule R159, without `BLTDONE`. -/
def dataActions (w : Word) (s : State) : State := dataHolds w (dataTransfers w s)

/-- The word a bus-holding micro-instruction puts on the bus (rules R324-R328). -/
def microBusValue (w : Word) (s : State) : Word :=
  if hasAction w .fetchA then chipRead16 s.blitter.bltapt s
  else if hasAction w .fetchB then chipRead16 s.blitter.bltbpt s
  else if hasAction w .fetchC then chipRead16 s.blitter.bltcpt s
  else if hasAction w .writeD && !s.blitter.lockD then s.blitter.dhold
  else 0xFFFF#16

/-- The bus part of a micro-instruction, in the slot owner's transfer (rules R132, R159, R219, R322): the bus record
of a word that holds the bus, and the transfer. -/
def microTransfer (w : Word) (s : State) : State :=
  dataTransfers w (if needsBus w then recordBus .blitter (microBusValue w s) s else s)

/-- The part of a micro-instruction that needs no bus (rules R132, R159, R318, R320): the data actions, then
`BLTDONE`. -/
def microActions (w : Word) (s : State) : State := whenAction w .bltdone bltDone (dataHolds w s)

/-- One executed micro-instruction (rules R159, R320). -/
def executeMicro (w : Word) (s : State) : State := microActions w (microTransfer w s)

/-- The word of a leading action and its other bits. -/
def microWord (a : MicroAction) (rest : Word) : Word := a.bit ||| rest

/-- UOP_NOTHING (rule R334). -/
def execUopNothing (s : State) : Result := .next (executeMicro 0#16 s)
/-- UOP_BUSIDLE (rule R323). -/
def execUopBusidle (rest : Word) (s : State) : Result := .next (executeMicro (microWord .busidle rest) s)
/-- UOP_BUS (rule R324). -/
def execUopBus (rest : Word) (s : State) : Result := .next (executeMicro (microWord .bus rest) s)
/-- UOP_WRITE_D (rule R325). -/
def execUopWriteD (rest : Word) (s : State) : Result := .next (executeMicro (microWord .writeD rest) s)
/-- UOP_FETCH_A (rule R326). -/
def execUopFetchA (rest : Word) (s : State) : Result := .next (executeMicro (microWord .fetchA rest) s)
/-- UOP_FETCH_B (rule R327). -/
def execUopFetchB (rest : Word) (s : State) : Result := .next (executeMicro (microWord .fetchB rest) s)
/-- UOP_FETCH_C (rule R328). -/
def execUopFetchC (rest : Word) (s : State) : Result := .next (executeMicro (microWord .fetchC rest) s)
/-- UOP_HOLD_A (rule R329). -/
def execUopHoldA (rest : Word) (s : State) : Result := .next (executeMicro (microWord .holdA rest) s)
/-- UOP_HOLD_B (rule R330). -/
def execUopHoldB (rest : Word) (s : State) : Result := .next (executeMicro (microWord .holdB rest) s)
/-- UOP_HOLD_D (rule R331). -/
def execUopHoldD (rest : Word) (s : State) : Result := .next (executeMicro (microWord .holdD rest) s)
/-- UOP_FILL, together with HOLD_D (rules R158, R331). -/
def execUopFill (rest : Word) (s : State) : Result := .next (executeMicro (microWord .fill rest) s)
/-- UOP_BLTDONE (rule R333). -/
def execUopBltdone (rest : Word) (s : State) : Result := .next (executeMicro (microWord .bltdone rest) s)
/-- UOP_REPEAT (rule R332). -/
def execUopRepeat (rest : Word) (s : State) : Result := .next (executeMicro (microWord .repeat rest) s)

/-! ### The micro-program table (rules R301, R320, R321) -/

/-- The words of a table entry. -/
def programWords (c : Cfg) (index : Nat) : List Word := c.bltProgram.getD index []

/-- `prog <- BLT_PROGRAM[M][fill][variant]`, `bltpc <- 0` (rule R301). -/
def selectProgram (index : Nat) (s : State) : State :=
  withBlitter (fun b => { b with prog := some (programWords s.cfg index), pc := 0 }) s

/-- The table entry of the current shape and fill selection (rules R301, R335). -/
def launchIndex (b : Blitter) (fast : Bool) : Nat :=
  programIndex (shapeOf b.bltcon0) (fillActive b.bltcon1) fast

/-! ### The fast path (rule R352) -/

/-- The data actions of a program, word by word, until the word with `BLTDONE` has been done. -/
def runData (words : List Word) : Nat → State → State
  | 0, s => s
  | n + 1, s =>
    match words[s.blitter.pc]? with
    | none => s
    | some w => if hasAction w .bltdone then dataActions w s else runData words n (dataActions w s)

/-- A bound on the words a blit executes: at most 6 words for each of `W*H` iterations, and a tail. -/
def blitFuel (b : Blitter) : Nat := 6 * (b.w * b.hgt) + 6

/-- `FastBlit()` (rule R352). -/
def fastBlit (s : State) : State :=
  selectProgram (launchIndex s.blitter true)
    (withBlitter (fun b => { b with x := s.blitter.w, y := s.blitter.hgt, pc := 0 })
      (runData (programWords s.cfg (launchIndex s.blitter false)) (blitFuel s.blitter)
        (withBlitter (fun b => { b with pc := 0 }) s)))

/-! ### Line mode (rules R340-R348) -/

/-- `incx` (rule R344). -/
def lineIncX (c : Cfg) (b : Blitter) : Blitter :=
  if shiftField b.bltcon0 = 15 then
    { b with bltcon0 := setShiftField b.bltcon0 0#4, bltcpt := ptrAdd c b.bltcpt 2#32 }
  else { b with bltcon0 := setShiftField b.bltcon0 (b.bltcon0.extractLsb' 12 4 + 1#4) }

/-- `decx` (rule R344). -/
def lineDecX (c : Cfg) (b : Blitter) : Blitter :=
  if shiftField b.bltcon0 = 0 then
    { b with bltcon0 := setShiftField b.bltcon0 15#4, bltcpt := ptrAdd c b.bltcpt 0xFFFFFFFE#32 }
  else { b with bltcon0 := setShiftField b.bltcon0 (b.bltcon0.extractLsb' 12 4 - 1#4) }

/-- `incy` (rule R344). -/
def lineIncY (c : Cfg) (b : Blitter) : Blitter :=
  { b with bltcpt := ptrAdd c b.bltcpt (moduloOffset b.bltcmod), oneDot := false }

/-- `decy` (rule R344). -/
def lineDecY (c : Cfg) (b : Blitter) : Blitter :=
  { b with bltcpt := ptrAdd c b.bltcpt (- moduloOffset b.bltcmod), oneDot := false }

/-- The minor step, taken when the error term is not negative (rule R344). -/
def lineMinor (c : Cfg) (b : Blitter) : Blitter :=
  if sud b.bltcon1 then (if sul b.bltcon1 then lineDecY c b else lineIncY c b)
  else (if sul b.bltcon1 then lineDecX c b else lineIncX c b)

/-- The major step, taken by every pixel (rule R344). -/
def lineMajor (c : Cfg) (b : Blitter) : Blitter :=
  if sud b.bltcon1 then (if aul b.bltcon1 then lineDecX c b else lineIncX c b)
  else (if aul b.bltcon1 then lineDecY c b else lineIncY c b)

/-- The error term (rule R343): with `USEA`, the pointer A moves by modulo B when the sign is set, else by
modulo A. -/
def lineError (c : Cfg) (b : Blitter) : Blitter :=
  if useA b.bltcon0 then
    let m := if signBit b.bltcon1 then b.bltbmod else b.bltamod
    { b with bltapt := ptrAdd c b.bltapt (moduloOffset m) }
  else b

/-- `Step()`, the texture index and D's pointer (rules R341-R344): the steps use the sign from before the
update. -/
def lineStep (c : Cfg) (b : Blitter) : Blitter :=
  let b1 : Blitter := lineMajor c (if signBit b.bltcon1 then b else lineMinor c b)
  let b2 : Blitter := lineError c b1
  { b2 with
    bltcon1 := setShiftField (setSignBit b2.bltcon1 (b2.bltapt.getLsbD 15)) (b2.bltcon1.extractLsb' 12 4 - 1#4),
    bltdpt := b2.bltcpt }

/-- One pixel of a line (rule R341); `lineFirst` marks pixel 0. -/
def linePixel (s : State) : State :=
  let b := s.blitter
  let hidden := sing b.bltcon1 && b.oneDot
  let ch := if useC b.bltcon0 then chipRead16 b.bltcpt s else b.chold
  let a := if hidden then 0#16 else (b.anew &&& b.bltafwm) >>> shiftField b.bltcon0
  let t := if b.bnew.getLsbD (shiftField b.bltcon1) then 0xFFFF#16 else 0#16
  let d := minterm a t ch (mintermField b.bltcon0)
  let s0 := if useC b.bltcon0 then chipFetch b.bltcpt s else s
  let s1 := if useD b.bltcon0 && !hidden then chipWrite16 (if b.lineFirst then b.bltdpt else b.bltcpt) d s0
            else s0
  withBlitter (fun _ => lineStep s.cfg
    { b with chold := ch, ahold := a, bhold := t, dhold := d, zero := zeroAfter b.zero d, oneDot := true,
             lineFirst := false }) s1

/-- `n` pixels. -/
def linePixels : Nat → State → State
  | 0, s => s
  | n + 1, s => linePixels n (linePixel s)

/-- The line bus program with its counters (rule R346).  "The counters set as if `W = 1`" are `W`, `x` and `y`; the
channel counters `colA..colD` keep their values (DESIGN CHOICE, log entry 38). -/
def selectLine (s : State) : State :=
  withBlitter (fun b => { b with w := 1, x := 1, y := b.hgt, pc := 0, prog := some lineProgram }) s

/-- `LineBlit()` (rules R340, R345, R346): all `H` pixels, then the bus program. -/
def lineBlit (s : State) : State :=
  selectLine (linePixels s.blitter.hgt (withBlitter (fun b => { b with oneDot := false, lineFirst := true }) s))

/-! ### Launch (rules R301, R302) -/

/-- The counters and status bits of a launch (rule R301). -/
def launchCounters (v : Word) (b : Blitter) : Blitter :=
  { b with w := sizeW v, hgt := sizeH v, x := sizeW v, y := sizeH v,
           colA := sizeW v, colB := sizeW v, colC := sizeW v, colD := sizeW v,
           busy := true, zero := true, lockD := true, aold := 0, bold := 0,
           fillCarry := fci b.bltcon1, pc := 0 }

/-- A write to `BLTSIZE`: a running blit is abandoned, with its step of this slot, and a new one starts from
the current registers (rules R301, R302). -/
def launch (v : Word) (s : State) : State :=
  let s := cancel slotBlitter (withBlitter (launchCounters v) s)
  if lineMode s.blitter.bltcon1 then lineBlit s
  else match s.cfg.accuracy with
    | .accurate => selectProgram (launchIndex s.blitter false) s
    | .fast => fastBlit s

end Sys2Proof.Machine
end

