-- ==== Sys2Proof/Machine/Registers.lean ====
section
/-! DEFINITION. The custom registers: access classes, the effect of each write, delayed writes, and the
generic read and write (spec/44_registers.md; the map is rule R67 of spec/10_state.md). -/

namespace Sys2Proof.Machine

/-! ### Access classes (rule R67) -/

/-- Access classes (rules R67, R460, R461): `R`; `R,C`; `ER`, `W` and `S`; the Denise strobes; a class with
`C` that is not readable; `-`. -/
inductive RegClass
  | readOnly | readCollaborator | writable | deniseStrobe | writeCollaborator | absent
  deriving DecidableEq, Repr

/-- Offsets of class `-` (rules R67, R165, R462). -/
def absentOffset (off : Nat) : Bool :=
  (decide (0x05A ≤ off) && decide (off < 0x060)) || (decide (0x068 ≤ off) && decide (off < 0x070))
    || (decide (0x076 ≤ off) && decide (off < 0x07E))
    || (decide (0x0AC ≤ off) && decide (off < 0x0B0)) || (decide (0x0BC ≤ off) && decide (off < 0x0C0))
    || (decide (0x0CC ≤ off) && decide (off < 0x0D0)) || (decide (0x0DC ≤ off) && decide (off < 0x0E0))
    || (decide (0x0F8 ≤ off) && decide (off < 0x100)) || off == 0x106
    || (decide (0x10C ≤ off) && decide (off < 0x110)) || (decide (0x11C ≤ off) && decide (off < 0x120))
    || decide (0x1C0 ≤ off)

/-- Offsets of class `R` (rule R464). -/
def readOnlyOffsets : List Nat := [0x002, 0x004, 0x006, 0x00E, 0x01C, 0x01E]

/-- Offsets of class `R,C` (rule R67). -/
def readCollaboratorOffsets : List Nat := [0x00A, 0x00C, 0x010, 0x012, 0x014, 0x016, 0x018, 0x01A]

/-- Offsets of classes `W,C` and `ER,C` (rules R67, R463). -/
def writeCollaboratorOffset (off : Nat) : Bool :=
  [0x008, 0x024, 0x026, 0x030, 0x032, 0x034, 0x036, 0x07E, 0x09E].contains off
    || (decide (0x0A0 ≤ off) && decide (off < 0x0DC))

/-- The class of an offset (rule R67). -/
def regClass (off : Nat) : RegClass :=
  if absentOffset off then .absent
  else if readOnlyOffsets.contains off then .readOnly
  else if readCollaboratorOffsets.contains off then .readCollaborator
  else if writeCollaboratorOffset off then .writeCollaborator
  else if 0x038 ≤ off ∧ off < 0x040 then .deniseStrobe
  else .writable

/-- The set `DELAYED` (rule R466). -/
def isDelayed (off : Nat) : Bool :=
  [0x08E, 0x090, 0x098, 0x100, 0x102, 0x104].contains off
    || (decide (0x110 ≤ off) && decide (off < 0x11C)) || (decide (0x140 ≤ off) && decide (off < 0x1C0))

/-! ### The effect of each write (rules R470-R509) -/

/-- A pointer half (rule R161): the high half at an even multiple of 2, the low half after it. -/
def pointerHalf (c : Cfg) (low : Bool) (v : Word) (p : Ptr) : Ptr :=
  if low then setPtrLow v p else setPtrHigh c v p

/-- `DMACON` (rule R473). -/
def writeDmacon (v : Word) (s : State) : State :=
  withCtl (fun k => { k with dmacon := setClr k.dmacon v 0x07FF#16 }) s

/-- `INTENA` (rule R472): the level is recomputed and pushed. -/
def writeIntena (v : Word) (s : State) : State :=
  pushLevel (withCtl (fun k => { k with intena := setClr k.intena v 0x7FFF#16 }) s)

/-- `INTREQ` (rule R471): the level is recomputed and pushed. -/
def writeIntreq (v : Word) (s : State) : State :=
  pushLevel (withCtl (fun k => { k with intreq := setClr k.intreq v 0x7FFF#16 }) s)

/-- `VPOSW` (rule R477). -/
def writeVposw (v : Word) (s : State) : State := { s with beam := { s.beam with lof := v.getLsbD 15 } }

/-- `COPCON` (rule R478). -/
def writeCopcon (v : Word) (s : State) : State := withCopper (fun k => { k with cdang := v.getLsbD 1 }) s

/-- `COP1LCH/L` (rule R479). -/
def writeCop1lc (low : Bool) (v : Word) (s : State) : State :=
  withCopper (fun k => { k with cop1lc := pointerHalf s.cfg low v k.cop1lc }) s

/-- `COP2LCH/L` (rule R479). -/
def writeCop2lc (low : Bool) (v : Word) (s : State) : State :=
  withCopper (fun k => { k with cop2lc := pointerHalf s.cfg low v k.cop2lc }) s

/-- The Copper starts at an address (rules R263, R264). -/
def copperJump (p : Ptr) (k : Copper) : Copper := { k with pc := p, st := .fetch1, skipNext := false }

/-- `COPJMP1` (rules R263, R480). -/
def strobeCopjmp1 (s : State) : State := withCopper (fun k => copperJump k.cop1lc k) s

/-- `COPJMP2` (rules R263, R480). -/
def strobeCopjmp2 (s : State) : State := withCopper (fun k => copperJump k.cop2lc k) s

/-- `DIWSTRT` (rule R483). -/
def writeDiwstrt (v : Word) (s : State) : State := withWindow (fun w => { w with diwstrt := v }) s
/-- `DIWSTOP` (rule R483). -/
def writeDiwstop (v : Word) (s : State) : State := withWindow (fun w => { w with diwstop := v }) s
/-- `DDFSTRT` (rule R484). -/
def writeDdfstrt (v : Word) (s : State) : State := withWindow (fun w => { w with ddfstrt := v &&& 0x00FC#16 }) s
/-- `DDFSTOP` (rule R484). -/
def writeDdfstop (v : Word) (s : State) : State := withWindow (fun w => { w with ddfstop := v &&& 0x00FC#16 }) s

/-- `CLXCON` (rule R482). -/
def writeClxcon (v : Word) (s : State) : State := withDenise (fun d => { d with clxcon := v }) s

/-- `BPLpPTH/L` (rule R485); `p` counts from 0. -/
def writeBplpt (p : Fin 6) (low : Bool) (v : Word) (s : State) : State :=
  withBpl (fun b => { b with bplpt := b.bplpt.set p (pointerHalf s.cfg low v b.bplpt[p]) }) s

/-- `BPL1MOD` (rule R486). -/
def writeBpl1mod (v : Word) (s : State) : State := withBpl (fun b => { b with bpl1mod := modulo v }) s
/-- `BPL2MOD` (rule R486). -/
def writeBpl2mod (v : Word) (s : State) : State := withBpl (fun b => { b with bpl2mod := modulo v }) s

/-- An entry for `bplLog` at the coordinate of the current slot (rules R384, R467). -/
def logBpl (off : Nat) (v : Word) (s : State) : State :=
  withDenise (fun d =>
    { d with bplLog := d.bplLog ++ [{ trigger := 4 * (s.beam.h.toNat : Int), addr := off, value := v }] }) s

/-- An entry for `colLog` at the coordinate of the current slot (rules R384, R467). -/
def logCol (off : Nat) (v : Word) (s : State) : State :=
  withDenise (fun d =>
    { d with colLog := d.colLog ++ [{ trigger := 4 * (s.beam.h.toNat : Int), addr := off, value := v }] }) s

/-- `BPLCON0` (rule R487). -/
def writeBplcon0 (v : Word) (s : State) : State := logBpl 0x100 v (withBpl (fun b => { b with bplcon0 := v }) s)
/-- `BPLCON1` (rule R488). -/
def writeBplcon1 (v : Word) (s : State) : State := logBpl 0x102 v (withBpl (fun b => { b with bplcon1 := v }) s)
/-- `BPLCON2` (rule R489). -/
def writeBplcon2 (v : Word) (s : State) : State := logBpl 0x104 v (withBpl (fun b => { b with bplcon2 := v }) s)

/-- `BPLpDAT` (rule R500); `p` counts from 0.  `BPL1DAT` requests the shifter load of the same slot (R385). -/
def writeBpldat (p : Fin 6) (v : Word) (s : State) : State :=
  withBpl (fun b => { b with bpldat := b.bpldat.set p v, loadPending := b.loadPending || decide (p = 0) }) s

/-- `SPRnPTH/L` (rule R501). -/
def writeSprpt (n : Fin 8) (low : Bool) (v : Word) (s : State) : State :=
  withSprite n (fun x => { x with ptr := pointerHalf s.cfg low v x.ptr }) s

/-- `SPRnPOS` (rule R505). -/
def writeSprpos (n : Fin 8) (v : Word) (s : State) : State :=
  logBpl (0x140 + 8 * n.val) v
    (withSprite n (fun x =>
      { x with pos := v, vstart := (x.vstart.extractLsb' 8 1 ++ v.extractLsb' 8 8 : BitVec 9) }) s)

/-- The attach bit of a pair, written by the control word of its odd sprite (rules R56, R506). -/
def writeAttach (n : Fin 8) (v : Word) (s : State) : State :=
  if n.val % 2 = 1 then
    withSprite (Fin.ofNat 8 (n.val - 1)) (fun x => { x with attach := v.getLsbD 7 })
      (withSprite n (fun x => { x with attach := v.getLsbD 7 }) s)
  else s

/-- `SPRnCTL` (rule R506). -/
def writeSprctl (n : Fin 8) (v : Word) (s : State) : State :=
  logBpl (0x142 + 8 * n.val) v
    (writeAttach n v
      (withSprite n (fun x =>
        { x with ctl := v, armed := false,
                 vstart := (v.extractLsb' 2 1 ++ x.vstart.extractLsb' 0 8 : BitVec 9),
                 vstop := (v.extractLsb' 1 1 ++ v.extractLsb' 8 8 : BitVec 9) }) s))

/-- `SPRnDATA` (rule R507). -/
def writeSprdata (n : Fin 8) (v : Word) (s : State) : State :=
  logBpl (0x144 + 8 * n.val) v (withSprite n (fun x => { x with data := v, armed := true }) s)

/-- `SPRnDATB` (rule R508). -/
def writeSprdatb (n : Fin 8) (v : Word) (s : State) : State :=
  logBpl (0x146 + 8 * n.val) v (withSprite n (fun x => { x with datb := v }) s)

/-- `COLORii` (rule R509): the stored and the logged value are the same masked value. -/
def writeColor (i : Fin 32) (v : Word) (s : State) : State :=
  logCol (0x180 + 2 * i.val) (v &&& 0x0FFF#16)
    (withDenise (fun d => { d with color := d.color.set i (v.extractLsb' 0 12) }) s)

/-- The Blitter's register of an offset, other than `BLTSIZE` (rules R491-R494, R498, R499). -/
def writeBlitter (c : Cfg) (off : Nat) (v : Word) (b : Blitter) : Blitter :=
  if off = 0x040 then { b with bltcon0 := v }
  else if off = 0x042 then { b with bltcon1 := v }
  else if off = 0x044 then { b with bltafwm := v }
  else if off = 0x046 then { b with bltalwm := v }
  else if off = 0x048 then { b with bltcpt := setPtrHigh c v b.bltcpt }
  else if off = 0x04A then { b with bltcpt := setPtrLow v b.bltcpt }
  else if off = 0x04C then { b with bltbpt := setPtrHigh c v b.bltbpt }
  else if off = 0x04E then { b with bltbpt := setPtrLow v b.bltbpt }
  else if off = 0x050 then { b with bltapt := setPtrHigh c v b.bltapt }
  else if off = 0x052 then { b with bltapt := setPtrLow v b.bltapt }
  else if off = 0x054 then { b with bltdpt := setPtrHigh c v b.bltdpt }
  else if off = 0x056 then { b with bltdpt := setPtrLow v b.bltdpt }
  else if off = 0x060 then { b with bltcmod := modulo v }
  else if off = 0x062 then { b with bltbmod := modulo v }
  else if off = 0x064 then { b with bltamod := modulo v }
  else if off = 0x066 then { b with bltdmod := modulo v }
  else if off = 0x070 then { b with chold := v }
  else if off = 0x072 then { b with bnew := v }
  else if off = 0x074 then { b with anew := v }
  else b

/-- `Apply` for the offsets below `$040`: `DSKPTH/L` are stored by the disk collaborator (rule R67);
`BLTDDAT`, `REFPTR` and `VHPOSW` are ignored (rules R496, R477). -/
def applySystem (off : Nat) (v : Word) (s : State) : State :=
  if off = 0x020 ∨ off = 0x022 then forward (.regWrite off v) s
  else if off = 0x02A then writeVposw v s
  else if off = 0x02E then writeCopcon v s
  else s

/-- `Apply` for the offsets `$080..$0DE`; `COPINS` is ignored (rule R480). -/
def applyControl (off : Nat) (v : Word) (s : State) : State :=
  if off = 0x080 then writeCop1lc false v s
  else if off = 0x082 then writeCop1lc true v s
  else if off = 0x084 then writeCop2lc false v s
  else if off = 0x086 then writeCop2lc true v s
  else if off = 0x088 then strobeCopjmp1 s
  else if off = 0x08A then strobeCopjmp2 s
  else if off = 0x08E then writeDiwstrt v s
  else if off = 0x090 then writeDiwstop v s
  else if off = 0x092 then writeDdfstrt v s
  else if off = 0x094 then writeDdfstop v s
  else if off = 0x096 then writeDmacon v s
  else if off = 0x098 then writeClxcon v s
  else if off = 0x09A then writeIntena v s
  else if off = 0x09C then writeIntreq v s
  else s

/-- `Apply` for the offsets `$0E0..$11E`. -/
def applyBitplane (off : Nat) (v : Word) (s : State) : State :=
  if off < 0x0F8 then writeBplpt (Fin.ofNat 6 ((off - 0x0E0) / 4)) (decide (off % 4 = 2)) v s
  else if off = 0x100 then writeBplcon0 v s
  else if off = 0x102 then writeBplcon1 v s
  else if off = 0x104 then writeBplcon2 v s
  else if off = 0x108 then writeBpl1mod v s
  else if off = 0x10A then writeBpl2mod v s
  else if 0x110 ≤ off ∧ off < 0x11C then writeBpldat (Fin.ofNat 6 ((off - 0x110) / 2)) v s
  else s

/-- `Apply` for the offsets `$140..$17E`. -/
def applySprite (off : Nat) (v : Word) (s : State) : State :=
  if off % 8 = 0 then writeSprpos (Fin.ofNat 8 ((off - 0x140) / 8)) v s
  else if off % 8 = 2 then writeSprctl (Fin.ofNat 8 ((off - 0x140) / 8)) v s
  else if off % 8 = 4 then writeSprdata (Fin.ofNat 8 ((off - 0x140) / 8)) v s
  else writeSprdatb (Fin.ofNat 8 ((off - 0x140) / 8)) v s

/-- `Apply(off, value)` (rule R461). -/
def applyReg (off : Nat) (v : Word) (s : State) : State :=
  if off < 0x040 then applySystem off v s
  else if off = 0x058 then launch v s
  else if off < 0x080 then withBlitter (writeBlitter s.cfg off v) s
  else if off < 0x0E0 then applyControl off v s
  else if off < 0x120 then applyBitplane off v s
  else if off < 0x140 then writeSprpt (Fin.ofNat 8 ((off - 0x120) / 4)) (decide (off % 4 = 2)) v s
  else if off < 0x180 then applySprite off v s
  else writeColor (Fin.ofNat 32 ((off - 0x180) / 2)) v s

/-! ### Delayed writes (rules R466, R210) -/

/-- The index of the first write of the queue that is due at `t`. -/
def firstDue (t : BitVec 64) (q : List PendingWrite) : Nat := q.findIdx (fun p => p.due == t)

/-- Queue a delayed write for the next slot and schedule `REG_WRITE` with the index of the first write that is
due there (rules R210, R466). -/
def enqueueWrite (off : Nat) (v : Word) (s : State) : State :=
  let q := s.pending ++ [{ due := s.now + 1#64, off := off, value := v }]
  scheduleData slotReg (s.now + 1#64) .regWrite (BitVec.ofNat 64 (firstDue (s.now + 1#64) q)) { s with pending := q }

/-- Apply writes in the order they were made. -/
def applyWrites : List PendingWrite → State → State
  | [], s => s
  | p :: l, s => applyWrites l (applyReg p.off p.value s)

/-- A queued write is due. -/
def writeDue (s : State) (p : PendingWrite) : Bool := decide (p.due.toNat ≤ s.now.toNat)

/-- The handler of `REG_WRITE` (rules R132 step 1, R210, R466): from the event's index on, apply the writes that
are due, in the order they were made; then cancel the event, or schedule it for the writes that remain. -/
def applyDue (s : State) : State :=
  let index := s.events.slots[slotReg].data.toNat
  let waiting := s.pending.drop index
  let rest := s.pending.take index ++ waiting.filter (fun p => !writeDue s p)
  let s1 := applyWrites (waiting.filter (writeDue s)) { s with pending := rest }
  match rest with
  | [] => cancel slotReg s1
  | p :: _ => scheduleData slotReg p.due .regWrite (BitVec.ofNat 64 (firstDue p.due rest)) s1

/-! ### Generic write and read (rules R460, R461) -/

/-- `RegisterWrite(off, value, owner)` (rule R461); the effect does not depend on the owner (rule R465). -/
def registerWrite (off : Nat) (v : Word) (s : State) : State :=
  match regClass off with
  | .readOnly => s
  | .absent => recordUnimplemented off s
  | .readCollaborator | .writeCollaborator => forward (.regWrite off v) s
  | .deniseStrobe => recordUnimplemented off s
  | .writable => if isDelayed off then enqueueWrite off v s else applyReg off v s

/-- The value of a readable register (rules R474-R476, R481). -/
def readableValue (off : Nat) (s : State) : Word :=
  if off = 0x002 then dmaconr s.ctl.dmacon s.blitter.busy s.blitter.zero
  else if off = 0x004 then vposr s.beam.lof s.beam.v
  else if off = 0x006 then vhposr s.beam.v s.beam.h
  else if off = 0x00E then (1#1 ++ s.denise.clxdat : BitVec 16)
  else if off = 0x01C then s.ctl.intena &&& 0x7FFF#16
  else if off = 0x01E then s.ctl.intreq &&& 0x7FFF#16
  else 0xFFFF#16

/-- The side effect of reading a readable register: `CLXDAT` clears (rule R481). -/
def readEffect (off : Nat) (s : State) : State :=
  if off = 0x00E then withDenise (fun d => { d with clxdat := 0#15 }) s else s

/-- `RegisterRead(off)` (rule R460), the value left in `readData`. -/
def registerRead (off : Nat) (s : State) : State :=
  match regClass off with
  | .readOnly => setReadData ((readableValue off s).setWidth 32) (readEffect off s)
  | .readCollaborator =>
    setReadData ((collaboratorWord s).setWidth 32) (countDraw (forward (.regRead off) s))
  | .deniseStrobe => setReadData 0xFFFF#32 s
  | .absent | .writeCollaborator | .writable =>
    setReadData ((busQuirk s).setWidth 32) (registerWrite off (busQuirk s) s)

/-- `SpyRead(off)` (rule R123): no side effect, `$FFFF` where the register is not readable; the value of a
collaborator's register is the collaborator's. -/
def spyRead (off : Nat) (s : State) : Word :=
  match regClass off with
  | .readOnly => readableValue off s
  | .readCollaborator => collaboratorWord s
  | .absent | .writeCollaborator | .writable | .deniseStrobe => 0xFFFF#16

/-- A register operation (rule R160). -/
def accessRegister (off : Nat) (op : RegOp) (s : State) : State :=
  match op with
  | .read => registerRead off s
  | .write v => registerWrite off v s

end Sys2Proof.Machine
end

