-- ==== Sys2Proof/Machine/Copper.lean ====
section
/-! DEFINITION. The Copper: the three instructions and the state steps that are no instruction
(spec/41_copper.md). -/

namespace Sys2Proof.Machine

/-- The comparator against the current beam and the Blitter (rule R275). -/
def copCondNow (vp : BitVec 8) (hp : BitVec 7) (bfd : Bool) (ve he : BitVec 7) (s : State) : Bool :=
  copCond vp hp bfd ve he s.beam.v s.beam.h s.blitter.busy

/-- The Copper enters a state. -/
def setCopState (st : CopState) (s : State) : State := withCopper (fun k => { k with st := st }) s

/-- COPPER_MOVE (rules R270, R271, R273): a protected destination halts the Copper; any other is a register
write, after which the Copper fetches, unless the write was a jump strobe, which has set the state itself. -/
def execCopperMove (ra : BitVec 8) (data : Word) (s : State) : Result :=
  if copProtected (moveDest ra) s.copper.cdang then .next (setCopState .halted s)
  else
    let s1 := registerWrite (moveDest ra) data s
    .next (if s1.copper.st = .execute then setCopState .fetch1 s1 else s1)

/-- COPPER_WAIT (rule R274). -/
def execCopperWait (vp : BitVec 8) (hp : BitVec 7) (bfd : Bool) (ve he : BitVec 7) (s : State) : Result :=
  .next (setCopState (if copCondNow vp hp bfd ve he s then .fetch1 else .waiting) s)

/-- COPPER_SKIP (rule R278). -/
def execCopperSkip (vp : BitVec 8) (hp : BitVec 7) (bfd : Bool) (ve he : BitVec 7) (s : State) : Result :=
  .next (withCopper
    (fun k => { k with st := .fetch1, skipNext := copCondNow vp hp bfd ve he s || k.skipNext }) s)

/-- WAITING (rules R276, R277): the re-check of the WAIT in `IR1/IR2`. -/
def copperRecheck (s : State) : State :=
  let i1 := s.copper.ir1
  let i2 := s.copper.ir2
  if copCondNow (i1.extractLsb' 8 8) (i1.extractLsb' 1 7) (i2.getLsbD 15) (i2.extractLsb' 8 7)
      (i2.extractLsb' 1 7) s then setCopState .fetch1 s
  else s

/-- FETCH1 and FETCH2 in a granted slot (rules R262, R266, R267), with the bus record. -/
def copperFetch (s : State) : State :=
  let w := chipRead16 s.copper.pc s
  let s1 := recordBus .copper w s
  match s.copper.st with
  | .fetch1 => withCopper (fun k => { k with ir1 := w, pc := ptrAdd s.cfg k.pc 2#32, st := .fetch2 }) s1
  | .fetch2 =>
    withCopper (fun k =>
      { k with ir2 := w, pc := ptrAdd s.cfg k.pc 2#32,
               st := if k.skipNext then .skipped else .execute, skipNext := false }) s1
  | .execute | .waiting | .skipped | .halted => s1

/-- A Copper slot (rules R260, R261, R265). -/
def copperSlot (s : State) : Bool :=
  dmaOn 7 s && (s.beam.h.getLsbD 0 == (s.cfg.copperParity == .odd))

/-- The Copper is in a state that fetches. -/
def copperFetching (s : State) : Bool := s.copper.st == .fetch1 || s.copper.st == .fetch2

/-- `reqCOPPER` (rule R265). -/
def reqCopper (s : State) : Bool := copperSlot s && copperFetching s

end Sys2Proof.Machine
end

