-- ==== Sys2Proof/Machine/Denise.lean ====
section
/-! DEFINITION. Denise: the bitplane shifter, the end-of-line replay with sprites, playfields, collisions,
border and colour, and the frame buffers (spec/43_denise.md). -/

namespace Sys2Proof.Machine

/-- `HPIXELS = FB_WIDTH` (rules R63, R428). -/
def hpixels : Nat := 1024
/-- `FB_HEIGHT` (rule R428). -/
def fbHeight : Nat := 313

/-! ### The bitplane shifter (rules R385-R390) -/

/-- The bits of a shift register, MSB first, each `pw` coordinates wide (rule R387). -/
def shiftBits (pw : Nat) (w : Word) : List Bool :=
  (List.range 16).flatMap (fun j => List.replicate pw (w.getLsbD (15 - j)))

/-- A plane overwritten from `start` onwards: what a load emits cuts off the bits of the one before it, and
bits past `HPIXELS` are lost (rules R387, R390; that bits may land beyond `4*LINE_SLOTS` follows rule R387
against the remark of rule R428: DESIGN CHOICE, log entry 33). -/
def overwriteFrom (old : List Bool) (start : Nat) (bits : List Bool) : List Bool :=
  (old.take start ++ List.replicate (start - old.length) false ++ bits).take hpixels

/-- What a load emits for plane `p` (counted from 1), given the registers of the slot (rule R387). -/
def emitPlane (con0 con1 : Word) (h : Nat) (p : Nat) (w : Word) (old : List Bool) : List Bool :=
  overwriteFrom old (4 * h + scrollDelay con1 p)
    (if p ≤ planeCount (hires con0) con0 then shiftBits (if hires con0 then 1 else 2) w else [])

/-- The bitplane shifter tick (step 4 of rule R132; rules R385, R387). -/
def shifterTick (s : State) : State :=
  if s.bpl.loadPending then
    withBpl (fun b =>
      { b with shiftReg := b.bpldat, loadPending := false,
               planeBits := Vector.ofFn (fun i =>
                 emitPlane b.bplcon0 b.bplcon1 s.beam.h.toNat (i.val + 1) b.bpldat[i] b.planeBits[i]) }) s
  else s

/-- `planeBit[p][x]`, `p` counted from 0. -/
def planeBitAt (b : Bitplanes) (p : Fin 6) (x : Nat) : Bool := b.planeBits[p].getD x false

/-- `bBuffer[x]` (rule R389). -/
def bBufferAt (b : Bitplanes) (x : Nat) : BitVec 6 :=
  (BitVec.ofBool (planeBitAt b 5 x) ++ BitVec.ofBool (planeBitAt b 4 x) ++ BitVec.ofBool (planeBitAt b 3 x)
    ++ BitVec.ofBool (planeBitAt b 2 x) ++ BitVec.ofBool (planeBitAt b 1 x)
    ++ BitVec.ofBool (planeBitAt b 0 x) : BitVec 6)

/-! ### Playfields (rules R395-R397) -/

/-- The playfields of a pixel: the front one's opacity, colour index, priority code and layer, and the colour
index of the other opaque one, or 0 (`mBuffer`). -/
structure Playfield where
  solid  : Bool
  index  : BitVec 6
  code   : Nat
  layer  : Layer
  other  : BitVec 6
  deriving DecidableEq, Repr

/-- Single playfield (rule R395). -/
def singlePlayfield (con2 : Word) (b : BitVec 6) : Playfield :=
  { solid := b != 0, index := b, code := pf2Code con2, layer := .playfield2, other := 0 }

/-- Playfield 1's value `{b[4], b[2], b[0]}` (rule R396). -/
def pf1Value (b : BitVec 6) : BitVec 3 :=
  (b.extractLsb' 4 1 ++ b.extractLsb' 2 1 ++ b.extractLsb' 0 1 : BitVec 3)

/-- Playfield 2's value `{b[5], b[3], b[1]}` (rule R396). -/
def pf2Value (b : BitVec 6) : BitVec 3 :=
  (b.extractLsb' 5 1 ++ b.extractLsb' 3 1 ++ b.extractLsb' 1 1 : BitVec 3)

/-- Dual playfield (rules R396, R397). -/
def dualPlayfield (con2 : Word) (b : BitVec 6) : Playfield :=
  let i1 : BitVec 6 := (pf1Value b).setWidth 6
  let i2 : BitVec 6 := 8#6 + (pf2Value b).setWidth 6
  if pf1Value b = 0 ∧ pf2Value b = 0 then
    { solid := false, index := 0, code := 0, layer := .background, other := 0 }
  else if pf2Value b = 0 then { solid := true, index := i1, code := pf1Code con2, layer := .playfield1, other := 0 }
  else if pf1Value b = 0 then { solid := true, index := i2, code := pf2Code con2, layer := .playfield2, other := 0 }
  else if pf2Pri con2 then { solid := true, index := i2, code := pf2Code con2, layer := .playfield2, other := i1 }
  else { solid := true, index := i1, code := pf1Code con2, layer := .playfield1, other := i2 }

/-- The playfields of a pixel (rules R395-R397). -/
def playfieldOf (con0 con2 : Word) (b : BitVec 6) : Playfield :=
  if dblpf con0 then dualPlayfield con2 b else singlePlayfield con2 b

/-! ### Sprites (rules R400-R403) -/

/-- A sprite's start at coordinate `x` (rule R402). -/
def spriteLoad (c : Cfg) (r : ReplaySprite) (x : Nat) (sp : Sprite) : Sprite :=
  if c.spriteEmulation && r.armed && x == spriteStart r.pos r.ctl then
    { sp with ssra := r.data, ssrb := r.datb, shiftCount := 32 }
  else sp

/-- `sv[n]` of a sprite after its start test (rule R402). -/
def spriteValue (c : Cfg) (sp : Sprite) : BitVec 2 :=
  if c.spriteEmulation && decide (0 < sp.shiftCount) then
    let j := (32 - sp.shiftCount) / 2
    (BitVec.ofBool (sp.ssrb.getLsbD (15 - j)) ++ BitVec.ofBool (sp.ssra.getLsbD (15 - j)) : BitVec 2)
  else 0#2

/-- A sprite after one coordinate (rule R402). -/
def spriteShift (sp : Sprite) : Sprite :=
  { sp with shiftCount := sp.shiftCount - 1, active := decide (1 < sp.shiftCount) }

/-- `pairIdx[q]` (rule R403). -/
def pairIndex (attached : Bool) (q : Nat) (evenSv oddSv : BitVec 2) : Option (BitVec 6) :=
  if attached then
    (if (oddSv ++ evenSv : BitVec 4) = 0#4 then none else some (16#6 + (oddSv ++ evenSv : BitVec 4).setWidth 6))
  else if evenSv ≠ 0#2 then some (BitVec.ofNat 6 (16 + 4 * q) + evenSv.setWidth 6)
  else if oddSv ≠ 0#2 then some (BitVec.ofNat 6 (16 + 4 * q) + oddSv.setWidth 6)
  else none

/-- The sprite layer: the lowest pair that shows (rule R403). -/
def spriteLayer (r : Vector ReplaySprite 8) (sv : Vector (BitVec 2) 8) : Option (Nat × BitVec 6) :=
  (List.finRange 4).findSome? (fun q =>
    (pairIndex (r[2 * q.val + 1].ctl.getLsbD 7) q.val sv[2 * q.val] sv[2 * q.val + 1]).map (fun i => (q.val, i)))

/-! ### Layers, colours and collisions of one pixel -/

/-- The layer that wins at an inside pixel and its colour index (rule R405). -/
def layerOf (sp : Option (Nat × BitVec 6)) (pf : Playfield) : Layer × BitVec 6 :=
  match sp with
  | some (q, i) =>
    if !pf.solid || decide (q < pf.code) then (.sprite (2 * q), i)
    else (pf.layer, pf.index)
  | none => if pf.solid then (pf.layer, pf.index) else (.background, 0)

/-- HAM is active (rule R398). -/
def hamActive (con0 : Word) : Bool := homod con0 && !dblpf con0

/-- Extra half-brite is active (rule R398). -/
def ehbActive (con0 : Word) : Bool := bpu con0 == 6 && !homod con0 && !dblpf con0

/-- `hamPrev` after an inside pixel (rule R427). -/
def hamNext (color : Vector (BitVec 12) 32) (prev : BitVec 12) (b : BitVec 6) : BitVec 12 :=
  let d := b.extractLsb' 0 4
  if b.extractLsb' 4 2 = 0#2 then color[Fin.ofNat 32 d.toNat]
  else if b.extractLsb' 4 2 = 1#2 then (prev.extractLsb' 4 8 ++ d : BitVec 12)
  else if b.extractLsb' 4 2 = 2#2 then (d ++ prev.extractLsb' 0 8 : BitVec 12)
  else (prev.extractLsb' 8 4 ++ d ++ prev.extractLsb' 0 4 : BitVec 12)

/-- The colour of an index (rules R425, R426): an index above 31 outside EHB has no register, and its colour is
a free value (log entry 11). -/
def indexColour (con0 : Word) (color : Vector (BitVec 12) 32) (i : BitVec 6) : BitVec 12 :=
  if i.toNat < 32 then color[Fin.ofNat 32 i.toNat]
  else if ehbActive con0 then halfBright color[Fin.ofNat 32 (i.toNat - 32)]
  else Config.colourBeyondTable i.toNat

/-- The layer is a sprite. -/
def Layer.isSprite : Layer → Bool
  | .sprite _ => true
  | .background | .playfield1 | .playfield2 => false

/-- The collision bits of a pixel (rules R410, R411), for the collision registers of the moment. -/
def pixelCollisions (con0 clxcon : Word) (b : BitVec 6) (sv : Vector (BitVec 2) 8) : BitVec 15 :=
  collisionBits (dblpf con0) clxcon b
    (spriteGroup clxcon 0 sv[0] sv[1]) (spriteGroup clxcon 1 sv[2] sv[3])
    (spriteGroup clxcon 2 sv[4] sv[5]) (spriteGroup clxcon 3 sv[6] sv[7])

/-! ### Replay (rules R381-R383, R420-R422) -/

/-- A pixel outside the DIW (rules R420, R422, R427); `mBuffer` receives the other playfield's index as at every
pixel (rule R397). -/
def borderPixel (b : BitVec 6) (d : Denise) : Denise × BitVec 32 :=
  ({ d with iBuffer := d.iBuffer ++ [0], mBuffer := d.mBuffer ++ [(playfieldOf d.rBplcon0 d.rBplcon2 b).other],
            zBuffer := d.zBuffer ++ [.background],
            hamPrev := d.rColor[0] }, rgba d.rColor[0])

/-- A pixel inside the DIW (rules R395-R427). -/
def insidePixel (c : Cfg) (b : BitVec 6) (sv : Vector (BitVec 2) 8) (d : Denise) : Denise × BitVec 32 :=
  let pf := playfieldOf d.rBplcon0 d.rBplcon2 b
  let win := layerOf (spriteLayer d.rSprite sv) pf
  let ham := if hamActive d.rBplcon0 then hamNext d.rColor d.hamPrev b else d.hamPrev
  let colour := if hamActive d.rBplcon0 && !win.1.isSprite then ham
                else indexColour d.rBplcon0 d.rColor win.2
  ({ d with iBuffer := d.iBuffer ++ [win.2], mBuffer := d.mBuffer ++ [pf.other], zBuffer := d.zBuffer ++ [win.1],
            hamPrev := ham,
            clxdat := if c.collisionCheck then d.clxdat ||| pixelCollisions d.rBplcon0 d.clxcon b sv
                      else d.clxdat }, rgba colour)

/-- One pixel of the line at coordinate `x` (rule R420). -/
def translatePixel (x : Nat) (s : State) : State × BitVec 32 :=
  let loaded : Vector Sprite 8 := Vector.ofFn (fun i => spriteLoad s.cfg s.denise.rSprite[i] x s.sprites[i])
  let sv : Vector (BitVec 2) 8 := Vector.ofFn (fun i => spriteValue s.cfg loaded[i])
  let r := if s.window.diwV && s.denise.rDiwH then insidePixel s.cfg (bBufferAt s.bpl x) sv s.denise
           else borderPixel (bBufferAt s.bpl x) s.denise
  ({ s with sprites := Vector.ofFn (fun i => spriteShift loaded[i]), denise := r.1 }, r.2)

/-- `n` pixels from `x`. -/
def translate : Nat → Nat → State → State × List (BitVec 32)
  | 0, _, s => (s, [])
  | n + 1, x, s =>
    let a := translatePixel x s
    let r := translate n (x + 1) a.1
    (r.1, a.2 :: r.2)

/-- `ApplyReplay` for the copy of one sprite (rule R383). -/
def replaySprite (off : Nat) (v : Word) (r : ReplaySprite) : ReplaySprite :=
  if off % 8 = 0 then { r with pos := v }
  else if off % 8 = 2 then { r with ctl := v, armed := false }
  else if off % 8 = 4 then { r with data := v, armed := true }
  else { r with datb := v }

/-- `ApplyReplay(e)` (rule R383). -/
def applyReplay (e : LogEntry) (d : Denise) : Denise :=
  if e.addr = 0x08E then { d with rDiwH := true }
  else if e.addr = 0x090 then { d with rDiwH := false }
  else if e.addr = 0x100 then { d with rBplcon0 := e.value }
  else if e.addr = 0x102 then { d with rBplcon1 := e.value }
  else if e.addr = 0x104 then { d with rBplcon2 := e.value }
  else if 0x140 ≤ e.addr ∧ e.addr < 0x180 then
    let n : Fin 8 := Fin.ofNat 8 ((e.addr - 0x140) / 8)
    { d with rSprite := d.rSprite.set n (replaySprite e.addr e.value d.rSprite[n]) }
  else if 0x180 ≤ e.addr ∧ e.addr < 0x1C0 then
    { d with rColor := d.rColor.set (Fin.ofNat 32 ((e.addr - 0x180) / 2)) (e.value.extractLsb' 0 12) }
  else d

/-- An entry placed after every entry whose trigger is not later. -/
def insertEntry (e : LogEntry) : List LogEntry → List LogEntry
  | [] => [e]
  | a :: l => if a.trigger ≤ e.trigger then a :: insertEntry e l else e :: a :: l

/-- The two logs merged by trigger, `bplLog` first on ties (rules R381, R382). -/
def mergeLogs (bplLog colLog : List LogEntry) : List LogEntry := colLog.foldl (fun l e => insertEntry e l) bplLog

/-- The coordinate at which an entry applies. -/
def entryPixel (e : LogEntry) : Nat := min e.trigger.toNat hpixels

/-- `Replay(v)` (rule R381) from coordinate `x`. -/
def replayFrom : List LogEntry → Nat → State → State × List (BitVec 32)
  | [], x, s => translate (hpixels - x) x s
  | e :: l, x, s =>
    let a := translate (entryPixel e - x) x s
    let r := replayFrom l (max x (entryPixel e)) (withDenise (applyReplay e) a.1)
    (r.1, a.2 ++ r.2)

/-- A row of a frame buffer replaced. -/
def setRow : FrameBuffer → Nat → List (BitVec 32) → FrameBuffer
  | [], v, row => [(v, row)]
  | (a, r) :: f, v, row =>
    if v < a then (v, row) :: (a, r) :: f
    else if v = a then (v, row) :: f
    else (a, r) :: setRow f v row

/-- The working frame buffer takes row `v` (rules R420, R430); a line beyond `FB_HEIGHT` has no row. -/
def storeRow (v : Nat) (row : List (BitVec 32)) (s : State) : State :=
  if fbHeight ≤ v then s
  else if s.beam.lof then { s with frames := { s.frames with longWorking := setRow s.frames.longWorking v row } }
  else { s with frames := { s.frames with shortWorking := setRow s.frames.shortWorking v row } }

/-- `EndOfLine(v)` (rules R381, R420, R427). -/
def endOfLine (s : State) : State :=
  let r := replayFrom (mergeLogs s.denise.bplLog s.denise.colLog) 0
    (withDenise (fun d => { d with hamPrev := d.rColor[0] }) s)
  withDenise (fun d => { d with bplLog := [], colLog := [] }) (storeRow s.beam.v.toNat r.2 r.1)

/-- The line buffers of a new line (rules R203, R390, R402). -/
def clearLine (s : State) : State :=
  { s with
    bpl := { s.bpl with planeBits := Vector.replicate 6 [] },
    sprites := Vector.ofFn (fun i => { s.sprites[i] with shiftCount := 0, active := false }),
    denise := { s.denise with iBuffer := [], mBuffer := [], zBuffer := [] } }

/-- The frame buffers exchange roles (rules R204, R432); the type of the frame is the `LOF` it ends with (DESIGN
CHOICE, log entry 32). -/
def swapFrames (s : State) : State :=
  if s.beam.lof then
    { s with frames := { s.frames with longWorking := s.frames.longStable, longStable := s.frames.longWorking } }
  else
    { s with frames := { s.frames with shortWorking := s.frames.shortStable, shortStable := s.frames.shortWorking } }

/-- `stableBuffer(type)` (rule R433), the frame buffer the host reads. -/
def stableBuffer (long : Bool) (s : State) : FrameBuffer :=
  if long then s.frames.longStable else s.frames.shortStable

end Sys2Proof.Machine
end

