-- ==== Sys2Proof/Machine/Agnus.lean ====
section
/-! DEFINITION. Agnus: the windows, the bus requests and the arbiter, the transfers of the DMA users, the
sprite DMA states and the beam (spec/40_agnus.md). -/

namespace Sys2Proof.Machine

/-! ### The fetch window (rules R225, R226, R243) -/

/-- The end of the line's fetch window, `ddfStart + 8*N8`. -/
def ddfEnd (w : Window) : Nat := w.ddfStart + 8 * w.ddfBlocks

/-- Latch the line's window in the slot `ddfStart` (rule R243), once per line (log entry 12). -/
def latchWindow (con0 : Word) (h : Nat) (w : Window) : Window :=
  if !w.ddfLatched && h == ddfStartOf (hires con0) w.ddfstrt then
    { w with ddfLatched := true, ddfHires := hires con0, ddfStart := h,
             ddfBlocks := ddfBlocksOf h (ddfStopOf w.ddfstop) }
  else w

/-- `ddfActive(h)` and the position in the fetch unit (rules R50, R243); outside the window the position is held
at 0 (DESIGN CHOICE, log entry 30). -/
def trackWindow (h : Nat) (w : Window) : Window :=
  let inside := w.diwV && w.ddfLatched && decide (w.ddfStart ≤ h) && decide (h < ddfEnd w)
  { w with ddfActive := inside,
           fetchUnitPos := if inside then BitVec.ofNat 3 ((h - w.ddfStart) % 8) else 0#3 }

/-- The end-of-window modulo of every fetched plane (rule R226). -/
def addModulos (s : State) : State :=
  withBpl (fun b =>
    { b with bplpt := Vector.ofFn (fun i =>
        if i.val + 1 ≤ planeCount s.window.ddfHires b.bplcon0 then
          ptrAdd s.cfg b.bplpt[i] (moduloOffset (if i.val % 2 = 0 then b.bpl1mod else b.bpl2mod))
        else b.bplpt[i]) }) s

/-- The window work of a slot, before arbitration: latch, track, and the modulos in the slot after the window.  That
the modulos are added before the slot's arbitration and transfers is the model's (DESIGN CHOICE, log entry 35). -/
def windowTick (s : State) : State :=
  let s1 := withWindow (fun w => trackWindow s.beam.h.toNat (latchWindow s.bpl.bplcon0 s.beam.h.toNat w)) s
  if s1.window.ddfLatched && s.beam.h.toNat == ddfEnd s1.window then addModulos s1 else s1

/-- The modulos of a window that the line's end cuts (rule R226). -/
def windowLineEnd (s : State) : State :=
  if s.window.ddfLatched && decide (s.cfg.lineSlots ≤ ddfEnd s.window) then addModulos s else s

/-- `bplFetchPlane(h)`, the plane counted from 0 (rule R225). -/
def bplFetchPlane (s : State) : Option (Fin 6) :=
  let p := fetchPattern s.window.ddfHires s.window.fetchUnitPos.toNat
  if s.window.ddfActive && decide (1 ≤ p) && decide (p ≤ planeCount s.window.ddfHires s.bpl.bplcon0) then
    some (Fin.ofNat 6 (p - 1))
  else none

/-! ### Requests (rules R212, R213, R218, R221, R322) -/

/-- `reqREFRESH` (rule R212). -/
def reqRefresh (s : State) : Bool := s.cfg.slotMap.refresh.contains s.beam.h.toNat

/-- `reqDISK` (rule R212). -/
def reqDisk (s : State) : Bool :=
  s.cfg.slotMap.disk.contains s.beam.h.toNat && dmaOn 4 s && s.ext.disk.wants

/-- The audio channel that requests the slot (rule R212): the lowest, where a configured map gives the slot to
several (DESIGN CHOICE, log entry 31). -/
def audioRequest (s : State) : Option (Fin 4) :=
  (List.finRange 4).find? (fun n =>
    s.cfg.slotMap.audio[n] == s.beam.h.toNat && dmaOn n.val s && s.ext.audio[n].wants)

/-- `sprNeedsFetch(n)` (rule R229). -/
def sprNeedsFetch (sp : Sprite) : Bool := sp.dma == .fetchCtl || sp.dma == .fetchData

/-- The sprite that requests the slot (rule R212): the lowest, where a configured map gives the slot to several
(DESIGN CHOICE, log entry 31). -/
def spriteRequest (s : State) : Option (Fin 8) :=
  (List.finRange 8).find? (fun n =>
    (s.cfg.slotMap.sprite[n].1 == s.beam.h.toNat || s.cfg.slotMap.sprite[n].2 == s.beam.h.toNat)
      && dmaOn 5 s && sprNeedsFetch s.sprites[n])

/-- `reqBITPLANE` (rule R212). -/
def reqBitplane (s : State) : Bool := dmaOn 8 s && (bplFetchPlane s).isSome

/-- `bus_is_free()` (rule R218). -/
def busIsFree (s : State) : Bool :=
  !(reqRefresh s || reqDisk s || (audioRequest s).isSome || (spriteRequest s).isSome || reqBitplane s
    || reqCopper s)

/-- The micro-instruction at `bltpc` (rule R320). -/
def blitterInst (b : Blitter) : Option Word := b.prog.bind (fun p => p[b.pc]?)

/-- `blitterSlot(h)` (rule R322). -/
def blitterSlot (s : State) : Bool :=
  s.blitter.busy && dmaOn 6 s && (s.cfg.blitterSlots == .any || !s.beam.h.getLsbD 0)

/-- The nasty-bit inhibition (rule R221). -/
def nastyInhibit (s : State) : Bool := !s.ctl.dmacon.getLsbD 10 && decide (3 ≤ s.bus.cpuWaitSlots)

/-- `reqBLITTER` (rules R213, R322). -/
def reqBlitter (s : State) : Bool :=
  match blitterInst s.blitter with
  | none => false
  | some w => blitterSlot s && needsBus w && !nastyInhibit s

/-- A micro-instruction that needs no bus executes in this slot (rules R322, R323). -/
def blitterInternal (s : State) : Bool :=
  match blitterInst s.blitter with
  | none => false
  | some w => blitterSlot s && !needsBus w && (!hasAction w .busidle || busIsFree s)

/-! ### Arbitration (rules R211, R215) -/

/-- `owner(h)` (rule R215). -/
def ownerOf (s : State) : BusOwner :=
  if reqRefresh s then .refresh
  else if reqDisk s then .disk
  else if (audioRequest s).isSome then .audio
  else if (spriteRequest s).isSome then .sprite
  else if reqBitplane s then .bitplane
  else if reqCopper s then .copper
  else if reqBlitter s then .blitter
  else if s.bus.reqCPU then .cpu
  else .none

/-- The CPU's count of denied slots (rules R221, R222). -/
def countWait (o : BusOwner) (s : State) : State :=
  { s with bus := { s.bus with
      cpuWaitSlots := if s.bus.reqCPU ∧ o ≠ .cpu then s.bus.cpuWaitSlots + 1 else 0 } }

/-- The Copper's event of a Copper slot: the re-check of a WAIT, or any other step (rules R210, R265, R276). -/
def copperEventId (k : Copper) : EventId := if k.st = .waiting then .copWake else .copStep

/-- Step 2 of rule R132: the CPU's count, and the events of the slot (rule R210): the Copper acts in every Copper
slot, the Blitter executes when it is granted the slot or needs no bus, a bitplane slot fetches. -/
def arbitrate (s : State) : State :=
  let s1 := countWait (ownerOf s) s
  let s2 := if copperSlot s then scheduleAbs slotCopper s.now (copperEventId s.copper) s1 else s1
  let s3 := if ownerOf s = .blitter || blitterInternal s then scheduleAbs slotBlitter s.now .bltStep s2 else s2
  if ownerOf s = .bitplane then scheduleAbs slotBitplane s.now .bplFetch s3 else s3

/-! ### Transfers of the DMA users (rules R226, R230, R231) -/

/-- A refresh slot (rules R124, R231). -/
def refreshTransfer (s : State) : State := recordBus .refresh 0xFFFF#16 s

/-- A disk slot (rule R231): the collaborator's word at the collaborator's pointer. -/
def diskTransfer (s : State) : State :=
  if s.ext.disk.write then
    recordBus .disk s.ext.disk.value (chipWrite16 s.ext.disk.ptr s.ext.disk.value s)
  else
    recordBus .disk (chipRead16 s.ext.disk.ptr s) (forward (.diskRead (chipRead16 s.ext.disk.ptr s)) s)

/-- An audio slot (rule R231). -/
def audioTransfer (n : Fin 4) (s : State) : State :=
  let w := chipRead16 s.ext.audio[n].ptr s
  recordBus .audio w (forward (.audioRead n.val w) s)

/-- The register a sprite fetch writes (rule R230). -/
def spriteTarget (n : Fin 8) (dma : SprDma) (first : Bool) : Nat :=
  0x140 + 8 * n.val + (if dma = .fetchCtl then (if first then 0 else 2) else (if first then 4 else 6))

/-- A sprite fetch (rule R230). -/
def spriteTransfer (n : Fin 8) (s : State) : State :=
  let w := chipRead16 s.sprites[n].ptr s
  let s1 := recordBus .sprite w (withSprite n (fun x => { x with ptr := ptrAdd s.cfg x.ptr 2#32 }) s)
  registerWrite (spriteTarget n s.sprites[n].dma (s.cfg.slotMap.sprite[n].1 == s.beam.h.toNat)) w s1

/-- A bitplane fetch (rule R226). -/
def bitplaneTransfer (p : Fin 6) (s : State) : State :=
  let w := chipRead16 s.bpl.bplpt[p] s
  let s1 := recordBus .bitplane w
    (withBpl (fun b => { b with bplpt := b.bplpt.set p (ptrAdd s.cfg b.bplpt[p] 2#32) }) s)
  registerWrite (0x110 + 2 * p.val) w s1

/-! ### The display window (rules R240, R241) -/

/-- The vertical flip-flop at the start of a line (rule R240). -/
def diwVertical (v : BitVec 9) (w : Window) : Window :=
  if v = vstop9 w.diwstop then { w with diwV := false }
  else if v = vstart9 w.diwstrt then { w with diwV := true }
  else w

/-- The horizontal flip-flop in a slot, with its log entries (rule R241); their value, 1 for on and 0 for off, is
the model's (DESIGN CHOICE, log entry 34). -/
def diwHorizontal (s : State) : State :=
  let s1 := if s.beam.h = s.window.diwstrt.extractLsb' 0 8 then
      logBpl 0x08E 1#16 (withWindow (fun w => { w with diwH := true }) s) else s
  if s.beam.h = s.window.diwstop.extractLsb' 0 8 then
    logBpl 0x090 0#16 (withWindow (fun w => { w with diwH := false }) s1) else s1

/-! ### Sprite DMA states (rule R229) -/

/-- `SPR_VFIRST` (rule R229). -/
def sprVFirst : BitVec 9 := 25#9

/-- The sprite DMA state at the start of line `v` (rule R229; log entry 13 for the line after a control
fetch). -/
def sprDmaNext (v : BitVec 9) (sp : Sprite) : SprDma :=
  if v = 0#9 then .idle
  else if v = sprVFirst then .fetchCtl
  else match sp.dma with
    | .idle => .idle
    | .fetchData => if v = sp.vstop then .fetchCtl else .fetchData
    | .waitStart => if v = sp.vstop then .fetchCtl else if v = sp.vstart then .fetchData else .waitStart
    | .fetchCtl => if v = sp.vstart ∧ v ≠ sp.vstop then .fetchData else .waitStart

/-! ### The beam (rules R201-R204) -/

/-- `FRAME_LINES` of the frame that is running (rule R32). -/
def frameLines (s : State) : Nat := if s.beam.lof then s.cfg.frameLinesLong else s.cfg.frameLinesShort

/-- `StartOfLine(v)` (rules R229, R240), with the line's fetch window not yet reached. -/
def startOfLine (s : State) : State :=
  { s with
    window := diwVertical s.beam.v
      { s.window with ddfLatched := false, ddfActive := false, fetchUnitPos := 0#3 },
    sprites := Vector.ofFn (fun i => { s.sprites[i] with dma := sprDmaNext s.beam.v s.sprites[i] }) }

/-- `EndOfFrame()` (rules R204, R264, R432). -/
def endOfFrame (s : State) : State :=
  let s1 := swapFrames s
  { s1 with
    beam := { s1.beam with lof := if lace s1.bpl.bplcon0 then !s1.beam.lof else true,
                           frame := s1.beam.frame + 1#64 },
    copper := copperJump s1.copper.cop1lc s1.copper,
    sprites := Vector.ofFn (fun i => { s1.sprites[i] with dma := .idle }) }

/-- The start of a frame: `v <- 0`, then VERTB (rules R201, R202). -/
def startOfFrame (s : State) : State := raiseIrq irqVertb { s with beam := { s.beam with v := 0#9 } }

/-- The work at the end of a line (rules R201, R203).  The frame ends where `v` reaches FRAME_LINES, or is beyond it
after a VPOSW write, so that `v` stays in the range of rules R11 and R32 (DESIGN CHOICE, log entry 9). -/
def newLine (s : State) : State :=
  let s1 := clearLine (endOfLine (windowLineEnd s))
  let s2 := { s1 with beam := { s1.beam with h := 0#8, v := s1.beam.v + 1#9 }, bus := { s1.bus with line := [] } }
  let s3 := if frameLines s ≤ s.beam.v.toNat + 1 then startOfFrame (endOfFrame s2) else s2
  startOfLine s3

/-- Step 8 of rule R132 and the advance of the clock (rules R200, R201). -/
def beamAdvance (s : State) : State :=
  let s1 := if s.beam.h.toNat + 1 = s.cfg.lineSlots then newLine s
            else { s with beam := { s.beam with h := s.beam.h + 1#8 } }
  { s1 with now := s1.now + 1#64 }

end Sys2Proof.Machine
end

