-- ==== Sys2Proof/Machine/Programs.lean ====
section
/-! DEFINITION. The meanings of the micro-program rows: selecting that entry of `BLT_PROGRAM` (rules R301,
R321), the line bus program (rule R346) and the fast path (rule R352). -/

namespace Sys2Proof.Machine

/-- BLTPROG_F_filloff_accurate, rule R321. -/
def execBltprogFFilloffAccurate (s : State) : Result := .next (selectProgram 60 s)
/-- BLTPROG_F_filloff_fast, rule R321. -/
def execBltprogFFilloffFast (s : State) : Result := .next (selectProgram 61 s)
/-- BLTPROG_F_fillon_accurate, rule R321. -/
def execBltprogFFillonAccurate (s : State) : Result := .next (selectProgram 62 s)
/-- BLTPROG_F_fillon_fast, rule R321. -/
def execBltprogFFillonFast (s : State) : Result := .next (selectProgram 63 s)
/-- BLTPROG_E_filloff_accurate, rule R321. -/
def execBltprogEFilloffAccurate (s : State) : Result := .next (selectProgram 56 s)
/-- BLTPROG_E_filloff_fast, rule R321. -/
def execBltprogEFilloffFast (s : State) : Result := .next (selectProgram 57 s)
/-- BLTPROG_E_fillon_accurate, rule R321. -/
def execBltprogEFillonAccurate (s : State) : Result := .next (selectProgram 58 s)
/-- BLTPROG_E_fillon_fast, rule R321. -/
def execBltprogEFillonFast (s : State) : Result := .next (selectProgram 59 s)
/-- BLTPROG_D_filloff_accurate, rule R321. -/
def execBltprogDFilloffAccurate (s : State) : Result := .next (selectProgram 52 s)
/-- BLTPROG_D_filloff_fast, rule R321. -/
def execBltprogDFilloffFast (s : State) : Result := .next (selectProgram 53 s)
/-- BLTPROG_D_fillon_accurate, rule R321. -/
def execBltprogDFillonAccurate (s : State) : Result := .next (selectProgram 54 s)
/-- BLTPROG_D_fillon_fast, rule R321. -/
def execBltprogDFillonFast (s : State) : Result := .next (selectProgram 55 s)
/-- BLTPROG_C_filloff_accurate, rule R321. -/
def execBltprogCFilloffAccurate (s : State) : Result := .next (selectProgram 48 s)
/-- BLTPROG_C_filloff_fast, rule R321. -/
def execBltprogCFilloffFast (s : State) : Result := .next (selectProgram 49 s)
/-- BLTPROG_C_fillon_accurate, rule R321. -/
def execBltprogCFillonAccurate (s : State) : Result := .next (selectProgram 50 s)
/-- BLTPROG_C_fillon_fast, rule R321. -/
def execBltprogCFillonFast (s : State) : Result := .next (selectProgram 51 s)
/-- BLTPROG_B_filloff_accurate, rule R321. -/
def execBltprogBFilloffAccurate (s : State) : Result := .next (selectProgram 44 s)
/-- BLTPROG_B_filloff_fast, rule R321. -/
def execBltprogBFilloffFast (s : State) : Result := .next (selectProgram 45 s)
/-- BLTPROG_B_fillon_accurate, rule R321. -/
def execBltprogBFillonAccurate (s : State) : Result := .next (selectProgram 46 s)
/-- BLTPROG_B_fillon_fast, rule R321. -/
def execBltprogBFillonFast (s : State) : Result := .next (selectProgram 47 s)
/-- BLTPROG_A_filloff_accurate, rule R321. -/
def execBltprogAFilloffAccurate (s : State) : Result := .next (selectProgram 40 s)
/-- BLTPROG_A_filloff_fast, rule R321. -/
def execBltprogAFilloffFast (s : State) : Result := .next (selectProgram 41 s)
/-- BLTPROG_A_fillon_accurate, rule R321. -/
def execBltprogAFillonAccurate (s : State) : Result := .next (selectProgram 42 s)
/-- BLTPROG_A_fillon_fast, rule R321. -/
def execBltprogAFillonFast (s : State) : Result := .next (selectProgram 43 s)
/-- BLTPROG_9_filloff_accurate, rule R321. -/
def execBltprog9FilloffAccurate (s : State) : Result := .next (selectProgram 36 s)
/-- BLTPROG_9_filloff_fast, rule R321. -/
def execBltprog9FilloffFast (s : State) : Result := .next (selectProgram 37 s)
/-- BLTPROG_9_fillon_accurate, rule R321. -/
def execBltprog9FillonAccurate (s : State) : Result := .next (selectProgram 38 s)
/-- BLTPROG_9_fillon_fast, rule R321. -/
def execBltprog9FillonFast (s : State) : Result := .next (selectProgram 39 s)
/-- BLTPROG_8_filloff_accurate, rule R321. -/
def execBltprog8FilloffAccurate (s : State) : Result := .next (selectProgram 32 s)
/-- BLTPROG_8_filloff_fast, rule R321. -/
def execBltprog8FilloffFast (s : State) : Result := .next (selectProgram 33 s)
/-- BLTPROG_8_fillon_accurate, rule R321. -/
def execBltprog8FillonAccurate (s : State) : Result := .next (selectProgram 34 s)
/-- BLTPROG_8_fillon_fast, rule R321. -/
def execBltprog8FillonFast (s : State) : Result := .next (selectProgram 35 s)
/-- BLTPROG_7_filloff_accurate, rule R321. -/
def execBltprog7FilloffAccurate (s : State) : Result := .next (selectProgram 28 s)
/-- BLTPROG_7_filloff_fast, rule R321. -/
def execBltprog7FilloffFast (s : State) : Result := .next (selectProgram 29 s)
/-- BLTPROG_7_fillon_accurate, rule R321. -/
def execBltprog7FillonAccurate (s : State) : Result := .next (selectProgram 30 s)
/-- BLTPROG_7_fillon_fast, rule R321. -/
def execBltprog7FillonFast (s : State) : Result := .next (selectProgram 31 s)
/-- BLTPROG_6_filloff_accurate, rule R321. -/
def execBltprog6FilloffAccurate (s : State) : Result := .next (selectProgram 24 s)
/-- BLTPROG_6_filloff_fast, rule R321. -/
def execBltprog6FilloffFast (s : State) : Result := .next (selectProgram 25 s)
/-- BLTPROG_6_fillon_accurate, rule R321. -/
def execBltprog6FillonAccurate (s : State) : Result := .next (selectProgram 26 s)
/-- BLTPROG_6_fillon_fast, rule R321. -/
def execBltprog6FillonFast (s : State) : Result := .next (selectProgram 27 s)
/-- BLTPROG_5_filloff_accurate, rule R321. -/
def execBltprog5FilloffAccurate (s : State) : Result := .next (selectProgram 20 s)
/-- BLTPROG_5_filloff_fast, rule R321. -/
def execBltprog5FilloffFast (s : State) : Result := .next (selectProgram 21 s)
/-- BLTPROG_5_fillon_accurate, rule R321. -/
def execBltprog5FillonAccurate (s : State) : Result := .next (selectProgram 22 s)
/-- BLTPROG_5_fillon_fast, rule R321. -/
def execBltprog5FillonFast (s : State) : Result := .next (selectProgram 23 s)
/-- BLTPROG_4_filloff_accurate, rule R321. -/
def execBltprog4FilloffAccurate (s : State) : Result := .next (selectProgram 16 s)
/-- BLTPROG_4_filloff_fast, rule R321. -/
def execBltprog4FilloffFast (s : State) : Result := .next (selectProgram 17 s)
/-- BLTPROG_4_fillon_accurate, rule R321. -/
def execBltprog4FillonAccurate (s : State) : Result := .next (selectProgram 18 s)
/-- BLTPROG_4_fillon_fast, rule R321. -/
def execBltprog4FillonFast (s : State) : Result := .next (selectProgram 19 s)
/-- BLTPROG_3_filloff_accurate, rule R321. -/
def execBltprog3FilloffAccurate (s : State) : Result := .next (selectProgram 12 s)
/-- BLTPROG_3_filloff_fast, rule R321. -/
def execBltprog3FilloffFast (s : State) : Result := .next (selectProgram 13 s)
/-- BLTPROG_3_fillon_accurate, rule R321. -/
def execBltprog3FillonAccurate (s : State) : Result := .next (selectProgram 14 s)
/-- BLTPROG_3_fillon_fast, rule R321. -/
def execBltprog3FillonFast (s : State) : Result := .next (selectProgram 15 s)
/-- BLTPROG_2_filloff_accurate, rule R321. -/
def execBltprog2FilloffAccurate (s : State) : Result := .next (selectProgram 8 s)
/-- BLTPROG_2_filloff_fast, rule R321. -/
def execBltprog2FilloffFast (s : State) : Result := .next (selectProgram 9 s)
/-- BLTPROG_2_fillon_accurate, rule R321. -/
def execBltprog2FillonAccurate (s : State) : Result := .next (selectProgram 10 s)
/-- BLTPROG_2_fillon_fast, rule R321. -/
def execBltprog2FillonFast (s : State) : Result := .next (selectProgram 11 s)
/-- BLTPROG_1_filloff_accurate, rule R321. -/
def execBltprog1FilloffAccurate (s : State) : Result := .next (selectProgram 4 s)
/-- BLTPROG_1_filloff_fast, rule R321. -/
def execBltprog1FilloffFast (s : State) : Result := .next (selectProgram 5 s)
/-- BLTPROG_1_fillon_accurate, rule R321. -/
def execBltprog1FillonAccurate (s : State) : Result := .next (selectProgram 6 s)
/-- BLTPROG_1_fillon_fast, rule R321. -/
def execBltprog1FillonFast (s : State) : Result := .next (selectProgram 7 s)
/-- BLTPROG_0_filloff_accurate, rule R321. -/
def execBltprog0FilloffAccurate (s : State) : Result := .next (selectProgram 0 s)
/-- BLTPROG_0_filloff_fast, rule R321. -/
def execBltprog0FilloffFast (s : State) : Result := .next (selectProgram 1 s)
/-- BLTPROG_0_fillon_accurate, rule R321. -/
def execBltprog0FillonAccurate (s : State) : Result := .next (selectProgram 2 s)
/-- BLTPROG_0_fillon_fast, rule R321. -/
def execBltprog0FillonFast (s : State) : Result := .next (selectProgram 3 s)
/-- BLTPROG_LINE, rule R346. -/
def execBltprogLine (s : State) : Result := .next (selectLine s)
/-- BLT_FASTPATH, rule R352. -/
def execBltFastpath (s : State) : Result := .next (fastBlit s)

end Sys2Proof.Machine
end

