-- ==== Sys2Proof/Machine/RegisterMeanings.lean ====
section
/-! DEFINITION. The meanings of the custom-register rows: one definition per register of rule R67, and one for
the offsets that name none.  Each is the register operation of rules R460, R461 at its offset. -/

namespace Sys2Proof.Machine

/-- WRITE_BLTDDAT, rule R496. -/
def execWriteBltddat (op : RegOp) (s : State) : Result := .next (accessRegister 0x000 op s)
/-- READ_DMACONR, rule R474. -/
def execReadDmaconr (op : RegOp) (s : State) : Result := .next (accessRegister 0x002 op s)
/-- READ_VPOSR, rule R476. -/
def execReadVposr (op : RegOp) (s : State) : Result := .next (accessRegister 0x004 op s)
/-- READ_VHPOSR, rule R476. -/
def execReadVhposr (op : RegOp) (s : State) : Result := .next (accessRegister 0x006 op s)
/-- WRITE_DSKDATR, rule R463. -/
def execWriteDskdatr (op : RegOp) (s : State) : Result := .next (accessRegister 0x008 op s)
/-- READ_JOY0DAT, rule R463. -/
def execReadJoy0dat (op : RegOp) (s : State) : Result := .next (accessRegister 0x00A op s)
/-- READ_JOY1DAT, rule R463. -/
def execReadJoy1dat (op : RegOp) (s : State) : Result := .next (accessRegister 0x00C op s)
/-- READ_CLXDAT, rule R481. -/
def execReadClxdat (op : RegOp) (s : State) : Result := .next (accessRegister 0x00E op s)
/-- READ_ADKCONR, rule R463. -/
def execReadAdkconr (op : RegOp) (s : State) : Result := .next (accessRegister 0x010 op s)
/-- READ_POT0DAT, rule R463. -/
def execReadPot0dat (op : RegOp) (s : State) : Result := .next (accessRegister 0x012 op s)
/-- READ_POT1DAT, rule R463. -/
def execReadPot1dat (op : RegOp) (s : State) : Result := .next (accessRegister 0x014 op s)
/-- READ_POTGOR, rule R463. -/
def execReadPotgor (op : RegOp) (s : State) : Result := .next (accessRegister 0x016 op s)
/-- READ_SERDATR, rule R463. -/
def execReadSerdatr (op : RegOp) (s : State) : Result := .next (accessRegister 0x018 op s)
/-- READ_DSKBYTR, rule R463. -/
def execReadDskbytr (op : RegOp) (s : State) : Result := .next (accessRegister 0x01A op s)
/-- READ_INTENAR, rule R475. -/
def execReadIntenar (op : RegOp) (s : State) : Result := .next (accessRegister 0x01C op s)
/-- READ_INTREQR, rule R475. -/
def execReadIntreqr (op : RegOp) (s : State) : Result := .next (accessRegister 0x01E op s)
/-- WRITE_DSKPTH, rule R463. -/
def execWriteDskpth (op : RegOp) (s : State) : Result := .next (accessRegister 0x020 op s)
/-- WRITE_DSKPTL, rule R463. -/
def execWriteDskptl (op : RegOp) (s : State) : Result := .next (accessRegister 0x022 op s)
/-- WRITE_DSKLEN, rule R463. -/
def execWriteDsklen (op : RegOp) (s : State) : Result := .next (accessRegister 0x024 op s)
/-- WRITE_DSKDAT, rule R463. -/
def execWriteDskdat (op : RegOp) (s : State) : Result := .next (accessRegister 0x026 op s)
/-- WRITE_REFPTR, rule R477. -/
def execWriteRefptr (op : RegOp) (s : State) : Result := .next (accessRegister 0x028 op s)
/-- WRITE_VPOSW, rule R477. -/
def execWriteVposw (op : RegOp) (s : State) : Result := .next (accessRegister 0x02A op s)
/-- WRITE_VHPOSW, rule R477. -/
def execWriteVhposw (op : RegOp) (s : State) : Result := .next (accessRegister 0x02C op s)
/-- WRITE_COPCON, rule R478. -/
def execWriteCopcon (op : RegOp) (s : State) : Result := .next (accessRegister 0x02E op s)
/-- WRITE_SERDAT, rule R463. -/
def execWriteSerdat (op : RegOp) (s : State) : Result := .next (accessRegister 0x030 op s)
/-- WRITE_SERPER, rule R463. -/
def execWriteSerper (op : RegOp) (s : State) : Result := .next (accessRegister 0x032 op s)
/-- WRITE_POTGO, rule R463. -/
def execWritePotgo (op : RegOp) (s : State) : Result := .next (accessRegister 0x034 op s)
/-- WRITE_JOYTEST, rule R463. -/
def execWriteJoytest (op : RegOp) (s : State) : Result := .next (accessRegister 0x036 op s)
/-- WRITE_STREQU, rule R490. -/
def execWriteStrequ (op : RegOp) (s : State) : Result := .next (accessRegister 0x038 op s)
/-- WRITE_STRVBL, rule R490. -/
def execWriteStrvbl (op : RegOp) (s : State) : Result := .next (accessRegister 0x03A op s)
/-- WRITE_STRHOR, rule R490. -/
def execWriteStrhor (op : RegOp) (s : State) : Result := .next (accessRegister 0x03C op s)
/-- WRITE_STRLONG, rule R490. -/
def execWriteStrlong (op : RegOp) (s : State) : Result := .next (accessRegister 0x03E op s)
/-- WRITE_BLTCON0, rule R491. -/
def execWriteBltcon0 (op : RegOp) (s : State) : Result := .next (accessRegister 0x040 op s)
/-- WRITE_BLTCON1, rule R491. -/
def execWriteBltcon1 (op : RegOp) (s : State) : Result := .next (accessRegister 0x042 op s)
/-- WRITE_BLTAFWM, rule R492. -/
def execWriteBltafwm (op : RegOp) (s : State) : Result := .next (accessRegister 0x044 op s)
/-- WRITE_BLTALWM, rule R492. -/
def execWriteBltalwm (op : RegOp) (s : State) : Result := .next (accessRegister 0x046 op s)
/-- WRITE_BLTCPTH, rule R493. -/
def execWriteBltcpth (op : RegOp) (s : State) : Result := .next (accessRegister 0x048 op s)
/-- WRITE_BLTCPTL, rule R493. -/
def execWriteBltcptl (op : RegOp) (s : State) : Result := .next (accessRegister 0x04A op s)
/-- WRITE_BLTBPTH, rule R493. -/
def execWriteBltbpth (op : RegOp) (s : State) : Result := .next (accessRegister 0x04C op s)
/-- WRITE_BLTBPTL, rule R493. -/
def execWriteBltbptl (op : RegOp) (s : State) : Result := .next (accessRegister 0x04E op s)
/-- WRITE_BLTAPTH, rule R493. -/
def execWriteBltapth (op : RegOp) (s : State) : Result := .next (accessRegister 0x050 op s)
/-- WRITE_BLTAPTL, rule R493. -/
def execWriteBltaptl (op : RegOp) (s : State) : Result := .next (accessRegister 0x052 op s)
/-- WRITE_BLTDPTH, rule R493. -/
def execWriteBltdpth (op : RegOp) (s : State) : Result := .next (accessRegister 0x054 op s)
/-- WRITE_BLTDPTL, rule R493. -/
def execWriteBltdptl (op : RegOp) (s : State) : Result := .next (accessRegister 0x056 op s)
/-- WRITE_BLTSIZE, rule R495. -/
def execWriteBltsize (op : RegOp) (s : State) : Result := .next (accessRegister 0x058 op s)
/-- WRITE_BLTCMOD, rule R494. -/
def execWriteBltcmod (op : RegOp) (s : State) : Result := .next (accessRegister 0x060 op s)
/-- WRITE_BLTBMOD, rule R494. -/
def execWriteBltbmod (op : RegOp) (s : State) : Result := .next (accessRegister 0x062 op s)
/-- WRITE_BLTAMOD, rule R494. -/
def execWriteBltamod (op : RegOp) (s : State) : Result := .next (accessRegister 0x064 op s)
/-- WRITE_BLTDMOD, rule R494. -/
def execWriteBltdmod (op : RegOp) (s : State) : Result := .next (accessRegister 0x066 op s)
/-- WRITE_BLTCDAT, rule R499. -/
def execWriteBltcdat (op : RegOp) (s : State) : Result := .next (accessRegister 0x070 op s)
/-- WRITE_BLTBDAT, rule R498. -/
def execWriteBltbdat (op : RegOp) (s : State) : Result := .next (accessRegister 0x072 op s)
/-- WRITE_BLTADAT, rule R498. -/
def execWriteBltadat (op : RegOp) (s : State) : Result := .next (accessRegister 0x074 op s)
/-- WRITE_DSKSYNC, rule R463. -/
def execWriteDsksync (op : RegOp) (s : State) : Result := .next (accessRegister 0x07E op s)
/-- WRITE_COP1LCH, rule R479. -/
def execWriteCop1lch (op : RegOp) (s : State) : Result := .next (accessRegister 0x080 op s)
/-- WRITE_COP1LCL, rule R479. -/
def execWriteCop1lcl (op : RegOp) (s : State) : Result := .next (accessRegister 0x082 op s)
/-- WRITE_COP2LCH, rule R479. -/
def execWriteCop2lch (op : RegOp) (s : State) : Result := .next (accessRegister 0x084 op s)
/-- WRITE_COP2LCL, rule R479. -/
def execWriteCop2lcl (op : RegOp) (s : State) : Result := .next (accessRegister 0x086 op s)
/-- WRITE_COPJMP1, rule R480. -/
def execWriteCopjmp1 (op : RegOp) (s : State) : Result := .next (accessRegister 0x088 op s)
/-- WRITE_COPJMP2, rule R480. -/
def execWriteCopjmp2 (op : RegOp) (s : State) : Result := .next (accessRegister 0x08A op s)
/-- WRITE_COPINS, rule R480. -/
def execWriteCopins (op : RegOp) (s : State) : Result := .next (accessRegister 0x08C op s)
/-- WRITE_DIWSTRT, rule R483. -/
def execWriteDiwstrt (op : RegOp) (s : State) : Result := .next (accessRegister 0x08E op s)
/-- WRITE_DIWSTOP, rule R483. -/
def execWriteDiwstop (op : RegOp) (s : State) : Result := .next (accessRegister 0x090 op s)
/-- WRITE_DDFSTRT, rule R484. -/
def execWriteDdfstrt (op : RegOp) (s : State) : Result := .next (accessRegister 0x092 op s)
/-- WRITE_DDFSTOP, rule R484. -/
def execWriteDdfstop (op : RegOp) (s : State) : Result := .next (accessRegister 0x094 op s)
/-- WRITE_DMACON, rule R473. -/
def execWriteDmacon (op : RegOp) (s : State) : Result := .next (accessRegister 0x096 op s)
/-- WRITE_CLXCON, rule R482. -/
def execWriteClxcon (op : RegOp) (s : State) : Result := .next (accessRegister 0x098 op s)
/-- WRITE_INTENA, rule R472. -/
def execWriteIntena (op : RegOp) (s : State) : Result := .next (accessRegister 0x09A op s)
/-- WRITE_INTREQ, rule R471. -/
def execWriteIntreq (op : RegOp) (s : State) : Result := .next (accessRegister 0x09C op s)
/-- WRITE_ADKCON, rule R463. -/
def execWriteAdkcon (op : RegOp) (s : State) : Result := .next (accessRegister 0x09E op s)
/-- WRITE_AUD0LCH, rule R463. -/
def execWriteAud0lch (op : RegOp) (s : State) : Result := .next (accessRegister 0x0A0 op s)
/-- WRITE_AUD0LCL, rule R463. -/
def execWriteAud0lcl (op : RegOp) (s : State) : Result := .next (accessRegister 0x0A2 op s)
/-- WRITE_AUD0LEN, rule R463. -/
def execWriteAud0len (op : RegOp) (s : State) : Result := .next (accessRegister 0x0A4 op s)
/-- WRITE_AUD0PER, rule R463. -/
def execWriteAud0per (op : RegOp) (s : State) : Result := .next (accessRegister 0x0A6 op s)
/-- WRITE_AUD0VOL, rule R463. -/
def execWriteAud0vol (op : RegOp) (s : State) : Result := .next (accessRegister 0x0A8 op s)
/-- WRITE_AUD0DAT, rule R463. -/
def execWriteAud0dat (op : RegOp) (s : State) : Result := .next (accessRegister 0x0AA op s)
/-- WRITE_AUD1LCH, rule R463. -/
def execWriteAud1lch (op : RegOp) (s : State) : Result := .next (accessRegister 0x0B0 op s)
/-- WRITE_AUD1LCL, rule R463. -/
def execWriteAud1lcl (op : RegOp) (s : State) : Result := .next (accessRegister 0x0B2 op s)
/-- WRITE_AUD1LEN, rule R463. -/
def execWriteAud1len (op : RegOp) (s : State) : Result := .next (accessRegister 0x0B4 op s)
/-- WRITE_AUD1PER, rule R463. -/
def execWriteAud1per (op : RegOp) (s : State) : Result := .next (accessRegister 0x0B6 op s)
/-- WRITE_AUD1VOL, rule R463. -/
def execWriteAud1vol (op : RegOp) (s : State) : Result := .next (accessRegister 0x0B8 op s)
/-- WRITE_AUD1DAT, rule R463. -/
def execWriteAud1dat (op : RegOp) (s : State) : Result := .next (accessRegister 0x0BA op s)
/-- WRITE_AUD2LCH, rule R463. -/
def execWriteAud2lch (op : RegOp) (s : State) : Result := .next (accessRegister 0x0C0 op s)
/-- WRITE_AUD2LCL, rule R463. -/
def execWriteAud2lcl (op : RegOp) (s : State) : Result := .next (accessRegister 0x0C2 op s)
/-- WRITE_AUD2LEN, rule R463. -/
def execWriteAud2len (op : RegOp) (s : State) : Result := .next (accessRegister 0x0C4 op s)
/-- WRITE_AUD2PER, rule R463. -/
def execWriteAud2per (op : RegOp) (s : State) : Result := .next (accessRegister 0x0C6 op s)
/-- WRITE_AUD2VOL, rule R463. -/
def execWriteAud2vol (op : RegOp) (s : State) : Result := .next (accessRegister 0x0C8 op s)
/-- WRITE_AUD2DAT, rule R463. -/
def execWriteAud2dat (op : RegOp) (s : State) : Result := .next (accessRegister 0x0CA op s)
/-- WRITE_AUD3LCH, rule R463. -/
def execWriteAud3lch (op : RegOp) (s : State) : Result := .next (accessRegister 0x0D0 op s)
/-- WRITE_AUD3LCL, rule R463. -/
def execWriteAud3lcl (op : RegOp) (s : State) : Result := .next (accessRegister 0x0D2 op s)
/-- WRITE_AUD3LEN, rule R463. -/
def execWriteAud3len (op : RegOp) (s : State) : Result := .next (accessRegister 0x0D4 op s)
/-- WRITE_AUD3PER, rule R463. -/
def execWriteAud3per (op : RegOp) (s : State) : Result := .next (accessRegister 0x0D6 op s)
/-- WRITE_AUD3VOL, rule R463. -/
def execWriteAud3vol (op : RegOp) (s : State) : Result := .next (accessRegister 0x0D8 op s)
/-- WRITE_AUD3DAT, rule R463. -/
def execWriteAud3dat (op : RegOp) (s : State) : Result := .next (accessRegister 0x0DA op s)
/-- WRITE_BPL1PTH, rule R485. -/
def execWriteBpl1pth (op : RegOp) (s : State) : Result := .next (accessRegister 0x0E0 op s)
/-- WRITE_BPL1PTL, rule R485. -/
def execWriteBpl1ptl (op : RegOp) (s : State) : Result := .next (accessRegister 0x0E2 op s)
/-- WRITE_BPL2PTH, rule R485. -/
def execWriteBpl2pth (op : RegOp) (s : State) : Result := .next (accessRegister 0x0E4 op s)
/-- WRITE_BPL2PTL, rule R485. -/
def execWriteBpl2ptl (op : RegOp) (s : State) : Result := .next (accessRegister 0x0E6 op s)
/-- WRITE_BPL3PTH, rule R485. -/
def execWriteBpl3pth (op : RegOp) (s : State) : Result := .next (accessRegister 0x0E8 op s)
/-- WRITE_BPL3PTL, rule R485. -/
def execWriteBpl3ptl (op : RegOp) (s : State) : Result := .next (accessRegister 0x0EA op s)
/-- WRITE_BPL4PTH, rule R485. -/
def execWriteBpl4pth (op : RegOp) (s : State) : Result := .next (accessRegister 0x0EC op s)
/-- WRITE_BPL4PTL, rule R485. -/
def execWriteBpl4ptl (op : RegOp) (s : State) : Result := .next (accessRegister 0x0EE op s)
/-- WRITE_BPL5PTH, rule R485. -/
def execWriteBpl5pth (op : RegOp) (s : State) : Result := .next (accessRegister 0x0F0 op s)
/-- WRITE_BPL5PTL, rule R485. -/
def execWriteBpl5ptl (op : RegOp) (s : State) : Result := .next (accessRegister 0x0F2 op s)
/-- WRITE_BPL6PTH, rule R485. -/
def execWriteBpl6pth (op : RegOp) (s : State) : Result := .next (accessRegister 0x0F4 op s)
/-- WRITE_BPL6PTL, rule R485. -/
def execWriteBpl6ptl (op : RegOp) (s : State) : Result := .next (accessRegister 0x0F6 op s)
/-- WRITE_BPLCON0, rule R487. -/
def execWriteBplcon0 (op : RegOp) (s : State) : Result := .next (accessRegister 0x100 op s)
/-- WRITE_BPLCON1, rule R488. -/
def execWriteBplcon1 (op : RegOp) (s : State) : Result := .next (accessRegister 0x102 op s)
/-- WRITE_BPLCON2, rule R489. -/
def execWriteBplcon2 (op : RegOp) (s : State) : Result := .next (accessRegister 0x104 op s)
/-- WRITE_BPL1MOD, rule R486. -/
def execWriteBpl1mod (op : RegOp) (s : State) : Result := .next (accessRegister 0x108 op s)
/-- WRITE_BPL2MOD, rule R486. -/
def execWriteBpl2mod (op : RegOp) (s : State) : Result := .next (accessRegister 0x10A op s)
/-- WRITE_BPL1DAT, rule R500. -/
def execWriteBpl1dat (op : RegOp) (s : State) : Result := .next (accessRegister 0x110 op s)
/-- WRITE_BPL2DAT, rule R500. -/
def execWriteBpl2dat (op : RegOp) (s : State) : Result := .next (accessRegister 0x112 op s)
/-- WRITE_BPL3DAT, rule R500. -/
def execWriteBpl3dat (op : RegOp) (s : State) : Result := .next (accessRegister 0x114 op s)
/-- WRITE_BPL4DAT, rule R500. -/
def execWriteBpl4dat (op : RegOp) (s : State) : Result := .next (accessRegister 0x116 op s)
/-- WRITE_BPL5DAT, rule R500. -/
def execWriteBpl5dat (op : RegOp) (s : State) : Result := .next (accessRegister 0x118 op s)
/-- WRITE_BPL6DAT, rule R500. -/
def execWriteBpl6dat (op : RegOp) (s : State) : Result := .next (accessRegister 0x11A op s)
/-- WRITE_SPR0PTH, rule R501. -/
def execWriteSpr0pth (op : RegOp) (s : State) : Result := .next (accessRegister 0x120 op s)
/-- WRITE_SPR0PTL, rule R501. -/
def execWriteSpr0ptl (op : RegOp) (s : State) : Result := .next (accessRegister 0x122 op s)
/-- WRITE_SPR1PTH, rule R501. -/
def execWriteSpr1pth (op : RegOp) (s : State) : Result := .next (accessRegister 0x124 op s)
/-- WRITE_SPR1PTL, rule R501. -/
def execWriteSpr1ptl (op : RegOp) (s : State) : Result := .next (accessRegister 0x126 op s)
/-- WRITE_SPR2PTH, rule R501. -/
def execWriteSpr2pth (op : RegOp) (s : State) : Result := .next (accessRegister 0x128 op s)
/-- WRITE_SPR2PTL, rule R501. -/
def execWriteSpr2ptl (op : RegOp) (s : State) : Result := .next (accessRegister 0x12A op s)
/-- WRITE_SPR3PTH, rule R501. -/
def execWriteSpr3pth (op : RegOp) (s : State) : Result := .next (accessRegister 0x12C op s)
/-- WRITE_SPR3PTL, rule R501. -/
def execWriteSpr3ptl (op : RegOp) (s : State) : Result := .next (accessRegister 0x12E op s)
/-- WRITE_SPR4PTH, rule R501. -/
def execWriteSpr4pth (op : RegOp) (s : State) : Result := .next (accessRegister 0x130 op s)
/-- WRITE_SPR4PTL, rule R501. -/
def execWriteSpr4ptl (op : RegOp) (s : State) : Result := .next (accessRegister 0x132 op s)
/-- WRITE_SPR5PTH, rule R501. -/
def execWriteSpr5pth (op : RegOp) (s : State) : Result := .next (accessRegister 0x134 op s)
/-- WRITE_SPR5PTL, rule R501. -/
def execWriteSpr5ptl (op : RegOp) (s : State) : Result := .next (accessRegister 0x136 op s)
/-- WRITE_SPR6PTH, rule R501. -/
def execWriteSpr6pth (op : RegOp) (s : State) : Result := .next (accessRegister 0x138 op s)
/-- WRITE_SPR6PTL, rule R501. -/
def execWriteSpr6ptl (op : RegOp) (s : State) : Result := .next (accessRegister 0x13A op s)
/-- WRITE_SPR7PTH, rule R501. -/
def execWriteSpr7pth (op : RegOp) (s : State) : Result := .next (accessRegister 0x13C op s)
/-- WRITE_SPR7PTL, rule R501. -/
def execWriteSpr7ptl (op : RegOp) (s : State) : Result := .next (accessRegister 0x13E op s)
/-- WRITE_SPR0POS, rule R505. -/
def execWriteSpr0pos (op : RegOp) (s : State) : Result := .next (accessRegister 0x140 op s)
/-- WRITE_SPR0CTL, rule R506. -/
def execWriteSpr0ctl (op : RegOp) (s : State) : Result := .next (accessRegister 0x142 op s)
/-- WRITE_SPR0DATA, rule R507. -/
def execWriteSpr0data (op : RegOp) (s : State) : Result := .next (accessRegister 0x144 op s)
/-- WRITE_SPR0DATB, rule R508. -/
def execWriteSpr0datb (op : RegOp) (s : State) : Result := .next (accessRegister 0x146 op s)
/-- WRITE_SPR1POS, rule R505. -/
def execWriteSpr1pos (op : RegOp) (s : State) : Result := .next (accessRegister 0x148 op s)
/-- WRITE_SPR1CTL, rule R506. -/
def execWriteSpr1ctl (op : RegOp) (s : State) : Result := .next (accessRegister 0x14A op s)
/-- WRITE_SPR1DATA, rule R507. -/
def execWriteSpr1data (op : RegOp) (s : State) : Result := .next (accessRegister 0x14C op s)
/-- WRITE_SPR1DATB, rule R508. -/
def execWriteSpr1datb (op : RegOp) (s : State) : Result := .next (accessRegister 0x14E op s)
/-- WRITE_SPR2POS, rule R505. -/
def execWriteSpr2pos (op : RegOp) (s : State) : Result := .next (accessRegister 0x150 op s)
/-- WRITE_SPR2CTL, rule R506. -/
def execWriteSpr2ctl (op : RegOp) (s : State) : Result := .next (accessRegister 0x152 op s)
/-- WRITE_SPR2DATA, rule R507. -/
def execWriteSpr2data (op : RegOp) (s : State) : Result := .next (accessRegister 0x154 op s)
/-- WRITE_SPR2DATB, rule R508. -/
def execWriteSpr2datb (op : RegOp) (s : State) : Result := .next (accessRegister 0x156 op s)
/-- WRITE_SPR3POS, rule R505. -/
def execWriteSpr3pos (op : RegOp) (s : State) : Result := .next (accessRegister 0x158 op s)
/-- WRITE_SPR3CTL, rule R506. -/
def execWriteSpr3ctl (op : RegOp) (s : State) : Result := .next (accessRegister 0x15A op s)
/-- WRITE_SPR3DATA, rule R507. -/
def execWriteSpr3data (op : RegOp) (s : State) : Result := .next (accessRegister 0x15C op s)
/-- WRITE_SPR3DATB, rule R508. -/
def execWriteSpr3datb (op : RegOp) (s : State) : Result := .next (accessRegister 0x15E op s)
/-- WRITE_SPR4POS, rule R505. -/
def execWriteSpr4pos (op : RegOp) (s : State) : Result := .next (accessRegister 0x160 op s)
/-- WRITE_SPR4CTL, rule R506. -/
def execWriteSpr4ctl (op : RegOp) (s : State) : Result := .next (accessRegister 0x162 op s)
/-- WRITE_SPR4DATA, rule R507. -/
def execWriteSpr4data (op : RegOp) (s : State) : Result := .next (accessRegister 0x164 op s)
/-- WRITE_SPR4DATB, rule R508. -/
def execWriteSpr4datb (op : RegOp) (s : State) : Result := .next (accessRegister 0x166 op s)
/-- WRITE_SPR5POS, rule R505. -/
def execWriteSpr5pos (op : RegOp) (s : State) : Result := .next (accessRegister 0x168 op s)
/-- WRITE_SPR5CTL, rule R506. -/
def execWriteSpr5ctl (op : RegOp) (s : State) : Result := .next (accessRegister 0x16A op s)
/-- WRITE_SPR5DATA, rule R507. -/
def execWriteSpr5data (op : RegOp) (s : State) : Result := .next (accessRegister 0x16C op s)
/-- WRITE_SPR5DATB, rule R508. -/
def execWriteSpr5datb (op : RegOp) (s : State) : Result := .next (accessRegister 0x16E op s)
/-- WRITE_SPR6POS, rule R505. -/
def execWriteSpr6pos (op : RegOp) (s : State) : Result := .next (accessRegister 0x170 op s)
/-- WRITE_SPR6CTL, rule R506. -/
def execWriteSpr6ctl (op : RegOp) (s : State) : Result := .next (accessRegister 0x172 op s)
/-- WRITE_SPR6DATA, rule R507. -/
def execWriteSpr6data (op : RegOp) (s : State) : Result := .next (accessRegister 0x174 op s)
/-- WRITE_SPR6DATB, rule R508. -/
def execWriteSpr6datb (op : RegOp) (s : State) : Result := .next (accessRegister 0x176 op s)
/-- WRITE_SPR7POS, rule R505. -/
def execWriteSpr7pos (op : RegOp) (s : State) : Result := .next (accessRegister 0x178 op s)
/-- WRITE_SPR7CTL, rule R506. -/
def execWriteSpr7ctl (op : RegOp) (s : State) : Result := .next (accessRegister 0x17A op s)
/-- WRITE_SPR7DATA, rule R507. -/
def execWriteSpr7data (op : RegOp) (s : State) : Result := .next (accessRegister 0x17C op s)
/-- WRITE_SPR7DATB, rule R508. -/
def execWriteSpr7datb (op : RegOp) (s : State) : Result := .next (accessRegister 0x17E op s)
/-- WRITE_COLOR00, rule R509. -/
def execWriteColor00 (op : RegOp) (s : State) : Result := .next (accessRegister 0x180 op s)
/-- WRITE_COLOR01, rule R509. -/
def execWriteColor01 (op : RegOp) (s : State) : Result := .next (accessRegister 0x182 op s)
/-- WRITE_COLOR02, rule R509. -/
def execWriteColor02 (op : RegOp) (s : State) : Result := .next (accessRegister 0x184 op s)
/-- WRITE_COLOR03, rule R509. -/
def execWriteColor03 (op : RegOp) (s : State) : Result := .next (accessRegister 0x186 op s)
/-- WRITE_COLOR04, rule R509. -/
def execWriteColor04 (op : RegOp) (s : State) : Result := .next (accessRegister 0x188 op s)
/-- WRITE_COLOR05, rule R509. -/
def execWriteColor05 (op : RegOp) (s : State) : Result := .next (accessRegister 0x18A op s)
/-- WRITE_COLOR06, rule R509. -/
def execWriteColor06 (op : RegOp) (s : State) : Result := .next (accessRegister 0x18C op s)
/-- WRITE_COLOR07, rule R509. -/
def execWriteColor07 (op : RegOp) (s : State) : Result := .next (accessRegister 0x18E op s)
/-- WRITE_COLOR08, rule R509. -/
def execWriteColor08 (op : RegOp) (s : State) : Result := .next (accessRegister 0x190 op s)
/-- WRITE_COLOR09, rule R509. -/
def execWriteColor09 (op : RegOp) (s : State) : Result := .next (accessRegister 0x192 op s)
/-- WRITE_COLOR10, rule R509. -/
def execWriteColor10 (op : RegOp) (s : State) : Result := .next (accessRegister 0x194 op s)
/-- WRITE_COLOR11, rule R509. -/
def execWriteColor11 (op : RegOp) (s : State) : Result := .next (accessRegister 0x196 op s)
/-- WRITE_COLOR12, rule R509. -/
def execWriteColor12 (op : RegOp) (s : State) : Result := .next (accessRegister 0x198 op s)
/-- WRITE_COLOR13, rule R509. -/
def execWriteColor13 (op : RegOp) (s : State) : Result := .next (accessRegister 0x19A op s)
/-- WRITE_COLOR14, rule R509. -/
def execWriteColor14 (op : RegOp) (s : State) : Result := .next (accessRegister 0x19C op s)
/-- WRITE_COLOR15, rule R509. -/
def execWriteColor15 (op : RegOp) (s : State) : Result := .next (accessRegister 0x19E op s)
/-- WRITE_COLOR16, rule R509. -/
def execWriteColor16 (op : RegOp) (s : State) : Result := .next (accessRegister 0x1A0 op s)
/-- WRITE_COLOR17, rule R509. -/
def execWriteColor17 (op : RegOp) (s : State) : Result := .next (accessRegister 0x1A2 op s)
/-- WRITE_COLOR18, rule R509. -/
def execWriteColor18 (op : RegOp) (s : State) : Result := .next (accessRegister 0x1A4 op s)
/-- WRITE_COLOR19, rule R509. -/
def execWriteColor19 (op : RegOp) (s : State) : Result := .next (accessRegister 0x1A6 op s)
/-- WRITE_COLOR20, rule R509. -/
def execWriteColor20 (op : RegOp) (s : State) : Result := .next (accessRegister 0x1A8 op s)
/-- WRITE_COLOR21, rule R509. -/
def execWriteColor21 (op : RegOp) (s : State) : Result := .next (accessRegister 0x1AA op s)
/-- WRITE_COLOR22, rule R509. -/
def execWriteColor22 (op : RegOp) (s : State) : Result := .next (accessRegister 0x1AC op s)
/-- WRITE_COLOR23, rule R509. -/
def execWriteColor23 (op : RegOp) (s : State) : Result := .next (accessRegister 0x1AE op s)
/-- WRITE_COLOR24, rule R509. -/
def execWriteColor24 (op : RegOp) (s : State) : Result := .next (accessRegister 0x1B0 op s)
/-- WRITE_COLOR25, rule R509. -/
def execWriteColor25 (op : RegOp) (s : State) : Result := .next (accessRegister 0x1B2 op s)
/-- WRITE_COLOR26, rule R509. -/
def execWriteColor26 (op : RegOp) (s : State) : Result := .next (accessRegister 0x1B4 op s)
/-- WRITE_COLOR27, rule R509. -/
def execWriteColor27 (op : RegOp) (s : State) : Result := .next (accessRegister 0x1B6 op s)
/-- WRITE_COLOR28, rule R509. -/
def execWriteColor28 (op : RegOp) (s : State) : Result := .next (accessRegister 0x1B8 op s)
/-- WRITE_COLOR29, rule R509. -/
def execWriteColor29 (op : RegOp) (s : State) : Result := .next (accessRegister 0x1BA op s)
/-- WRITE_COLOR30, rule R509. -/
def execWriteColor30 (op : RegOp) (s : State) : Result := .next (accessRegister 0x1BC op s)
/-- WRITE_COLOR31, rule R509. -/
def execWriteColor31 (op : RegOp) (s : State) : Result := .next (accessRegister 0x1BE op s)
/-- ACCESS_unimplemented_offset, rule R462. -/
def execAccessUnimplementedOffset (off : RegOff) (op : RegOp) (s : State) : Result :=
  .next (accessRegister off.toNat op s)

end Sys2Proof.Machine
end

