-- ==== Sys2Proof/Machine/Dispatch.lean ====
section
/-! DEFINITION. The dispatch of an instruction to its meaning, one arm per constructor. -/

namespace Sys2Proof.Machine

/-- The effect of an instruction. -/
def exec (i : Instr) (s : State) : Host.Outcome State Fault Refusal :=
  match i with
  | .copperMove ra data => Sys2Proof.Machine.execCopperMove ra data s
  | .copperWait vp hp bfd ve he => Sys2Proof.Machine.execCopperWait vp hp bfd ve he s
  | .copperSkip vp hp bfd ve he => Sys2Proof.Machine.execCopperSkip vp hp bfd ve he s
  | .uopBusidle rest => Sys2Proof.Machine.execUopBusidle rest s
  | .uopBus rest => Sys2Proof.Machine.execUopBus rest s
  | .uopWriteD rest => Sys2Proof.Machine.execUopWriteD rest s
  | .uopFetchA rest => Sys2Proof.Machine.execUopFetchA rest s
  | .uopFetchB rest => Sys2Proof.Machine.execUopFetchB rest s
  | .uopFetchC rest => Sys2Proof.Machine.execUopFetchC rest s
  | .uopHoldA rest => Sys2Proof.Machine.execUopHoldA rest s
  | .uopHoldB rest => Sys2Proof.Machine.execUopHoldB rest s
  | .uopHoldD rest => Sys2Proof.Machine.execUopHoldD rest s
  | .uopFill rest => Sys2Proof.Machine.execUopFill rest s
  | .uopBltdone rest => Sys2Proof.Machine.execUopBltdone rest s
  | .uopRepeat rest => Sys2Proof.Machine.execUopRepeat rest s
  | .uopNothing => Sys2Proof.Machine.execUopNothing s
  | .bltprogFFilloffAccurate => Sys2Proof.Machine.execBltprogFFilloffAccurate s
  | .bltprogFFilloffFast => Sys2Proof.Machine.execBltprogFFilloffFast s
  | .bltprogFFillonAccurate => Sys2Proof.Machine.execBltprogFFillonAccurate s
  | .bltprogFFillonFast => Sys2Proof.Machine.execBltprogFFillonFast s
  | .bltprogEFilloffAccurate => Sys2Proof.Machine.execBltprogEFilloffAccurate s
  | .bltprogEFilloffFast => Sys2Proof.Machine.execBltprogEFilloffFast s
  | .bltprogEFillonAccurate => Sys2Proof.Machine.execBltprogEFillonAccurate s
  | .bltprogEFillonFast => Sys2Proof.Machine.execBltprogEFillonFast s
  | .bltprogDFilloffAccurate => Sys2Proof.Machine.execBltprogDFilloffAccurate s
  | .bltprogDFilloffFast => Sys2Proof.Machine.execBltprogDFilloffFast s
  | .bltprogDFillonAccurate => Sys2Proof.Machine.execBltprogDFillonAccurate s
  | .bltprogDFillonFast => Sys2Proof.Machine.execBltprogDFillonFast s
  | .bltprogCFilloffAccurate => Sys2Proof.Machine.execBltprogCFilloffAccurate s
  | .bltprogCFilloffFast => Sys2Proof.Machine.execBltprogCFilloffFast s
  | .bltprogCFillonAccurate => Sys2Proof.Machine.execBltprogCFillonAccurate s
  | .bltprogCFillonFast => Sys2Proof.Machine.execBltprogCFillonFast s
  | .bltprogBFilloffAccurate => Sys2Proof.Machine.execBltprogBFilloffAccurate s
  | .bltprogBFilloffFast => Sys2Proof.Machine.execBltprogBFilloffFast s
  | .bltprogBFillonAccurate => Sys2Proof.Machine.execBltprogBFillonAccurate s
  | .bltprogBFillonFast => Sys2Proof.Machine.execBltprogBFillonFast s
  | .bltprogAFilloffAccurate => Sys2Proof.Machine.execBltprogAFilloffAccurate s
  | .bltprogAFilloffFast => Sys2Proof.Machine.execBltprogAFilloffFast s
  | .bltprogAFillonAccurate => Sys2Proof.Machine.execBltprogAFillonAccurate s
  | .bltprogAFillonFast => Sys2Proof.Machine.execBltprogAFillonFast s
  | .bltprog9FilloffAccurate => Sys2Proof.Machine.execBltprog9FilloffAccurate s
  | .bltprog9FilloffFast => Sys2Proof.Machine.execBltprog9FilloffFast s
  | .bltprog9FillonAccurate => Sys2Proof.Machine.execBltprog9FillonAccurate s
  | .bltprog9FillonFast => Sys2Proof.Machine.execBltprog9FillonFast s
  | .bltprog8FilloffAccurate => Sys2Proof.Machine.execBltprog8FilloffAccurate s
  | .bltprog8FilloffFast => Sys2Proof.Machine.execBltprog8FilloffFast s
  | .bltprog8FillonAccurate => Sys2Proof.Machine.execBltprog8FillonAccurate s
  | .bltprog8FillonFast => Sys2Proof.Machine.execBltprog8FillonFast s
  | .bltprog7FilloffAccurate => Sys2Proof.Machine.execBltprog7FilloffAccurate s
  | .bltprog7FilloffFast => Sys2Proof.Machine.execBltprog7FilloffFast s
  | .bltprog7FillonAccurate => Sys2Proof.Machine.execBltprog7FillonAccurate s
  | .bltprog7FillonFast => Sys2Proof.Machine.execBltprog7FillonFast s
  | .bltprog6FilloffAccurate => Sys2Proof.Machine.execBltprog6FilloffAccurate s
  | .bltprog6FilloffFast => Sys2Proof.Machine.execBltprog6FilloffFast s
  | .bltprog6FillonAccurate => Sys2Proof.Machine.execBltprog6FillonAccurate s
  | .bltprog6FillonFast => Sys2Proof.Machine.execBltprog6FillonFast s
  | .bltprog5FilloffAccurate => Sys2Proof.Machine.execBltprog5FilloffAccurate s
  | .bltprog5FilloffFast => Sys2Proof.Machine.execBltprog5FilloffFast s
  | .bltprog5FillonAccurate => Sys2Proof.Machine.execBltprog5FillonAccurate s
  | .bltprog5FillonFast => Sys2Proof.Machine.execBltprog5FillonFast s
  | .bltprog4FilloffAccurate => Sys2Proof.Machine.execBltprog4FilloffAccurate s
  | .bltprog4FilloffFast => Sys2Proof.Machine.execBltprog4FilloffFast s
  | .bltprog4FillonAccurate => Sys2Proof.Machine.execBltprog4FillonAccurate s
  | .bltprog4FillonFast => Sys2Proof.Machine.execBltprog4FillonFast s
  | .bltprog3FilloffAccurate => Sys2Proof.Machine.execBltprog3FilloffAccurate s
  | .bltprog3FilloffFast => Sys2Proof.Machine.execBltprog3FilloffFast s
  | .bltprog3FillonAccurate => Sys2Proof.Machine.execBltprog3FillonAccurate s
  | .bltprog3FillonFast => Sys2Proof.Machine.execBltprog3FillonFast s
  | .bltprog2FilloffAccurate => Sys2Proof.Machine.execBltprog2FilloffAccurate s
  | .bltprog2FilloffFast => Sys2Proof.Machine.execBltprog2FilloffFast s
  | .bltprog2FillonAccurate => Sys2Proof.Machine.execBltprog2FillonAccurate s
  | .bltprog2FillonFast => Sys2Proof.Machine.execBltprog2FillonFast s
  | .bltprog1FilloffAccurate => Sys2Proof.Machine.execBltprog1FilloffAccurate s
  | .bltprog1FilloffFast => Sys2Proof.Machine.execBltprog1FilloffFast s
  | .bltprog1FillonAccurate => Sys2Proof.Machine.execBltprog1FillonAccurate s
  | .bltprog1FillonFast => Sys2Proof.Machine.execBltprog1FillonFast s
  | .bltprog0FilloffAccurate => Sys2Proof.Machine.execBltprog0FilloffAccurate s
  | .bltprog0FilloffFast => Sys2Proof.Machine.execBltprog0FilloffFast s
  | .bltprog0FillonAccurate => Sys2Proof.Machine.execBltprog0FillonAccurate s
  | .bltprog0FillonFast => Sys2Proof.Machine.execBltprog0FillonFast s
  | .bltprogLine => Sys2Proof.Machine.execBltprogLine s
  | .bltFastpath => Sys2Proof.Machine.execBltFastpath s
  | .writeBltddat op => Sys2Proof.Machine.execWriteBltddat op s
  | .readDmaconr op => Sys2Proof.Machine.execReadDmaconr op s
  | .readVposr op => Sys2Proof.Machine.execReadVposr op s
  | .readVhposr op => Sys2Proof.Machine.execReadVhposr op s
  | .writeDskdatr op => Sys2Proof.Machine.execWriteDskdatr op s
  | .readJoy0dat op => Sys2Proof.Machine.execReadJoy0dat op s
  | .readJoy1dat op => Sys2Proof.Machine.execReadJoy1dat op s
  | .readClxdat op => Sys2Proof.Machine.execReadClxdat op s
  | .readAdkconr op => Sys2Proof.Machine.execReadAdkconr op s
  | .readPot0dat op => Sys2Proof.Machine.execReadPot0dat op s
  | .readPot1dat op => Sys2Proof.Machine.execReadPot1dat op s
  | .readPotgor op => Sys2Proof.Machine.execReadPotgor op s
  | .readSerdatr op => Sys2Proof.Machine.execReadSerdatr op s
  | .readDskbytr op => Sys2Proof.Machine.execReadDskbytr op s
  | .readIntenar op => Sys2Proof.Machine.execReadIntenar op s
  | .readIntreqr op => Sys2Proof.Machine.execReadIntreqr op s
  | .writeDskpth op => Sys2Proof.Machine.execWriteDskpth op s
  | .writeDskptl op => Sys2Proof.Machine.execWriteDskptl op s
  | .writeDsklen op => Sys2Proof.Machine.execWriteDsklen op s
  | .writeDskdat op => Sys2Proof.Machine.execWriteDskdat op s
  | .writeRefptr op => Sys2Proof.Machine.execWriteRefptr op s
  | .writeVposw op => Sys2Proof.Machine.execWriteVposw op s
  | .writeVhposw op => Sys2Proof.Machine.execWriteVhposw op s
  | .writeCopcon op => Sys2Proof.Machine.execWriteCopcon op s
  | .writeSerdat op => Sys2Proof.Machine.execWriteSerdat op s
  | .writeSerper op => Sys2Proof.Machine.execWriteSerper op s
  | .writePotgo op => Sys2Proof.Machine.execWritePotgo op s
  | .writeJoytest op => Sys2Proof.Machine.execWriteJoytest op s
  | .writeStrequ op => Sys2Proof.Machine.execWriteStrequ op s
  | .writeStrvbl op => Sys2Proof.Machine.execWriteStrvbl op s
  | .writeStrhor op => Sys2Proof.Machine.execWriteStrhor op s
  | .writeStrlong op => Sys2Proof.Machine.execWriteStrlong op s
  | .writeBltcon0 op => Sys2Proof.Machine.execWriteBltcon0 op s
  | .writeBltcon1 op => Sys2Proof.Machine.execWriteBltcon1 op s
  | .writeBltafwm op => Sys2Proof.Machine.execWriteBltafwm op s
  | .writeBltalwm op => Sys2Proof.Machine.execWriteBltalwm op s
  | .writeBltcpth op => Sys2Proof.Machine.execWriteBltcpth op s
  | .writeBltcptl op => Sys2Proof.Machine.execWriteBltcptl op s
  | .writeBltbpth op => Sys2Proof.Machine.execWriteBltbpth op s
  | .writeBltbptl op => Sys2Proof.Machine.execWriteBltbptl op s
  | .writeBltapth op => Sys2Proof.Machine.execWriteBltapth op s
  | .writeBltaptl op => Sys2Proof.Machine.execWriteBltaptl op s
  | .writeBltdpth op => Sys2Proof.Machine.execWriteBltdpth op s
  | .writeBltdptl op => Sys2Proof.Machine.execWriteBltdptl op s
  | .writeBltsize op => Sys2Proof.Machine.execWriteBltsize op s
  | .writeBltcmod op => Sys2Proof.Machine.execWriteBltcmod op s
  | .writeBltbmod op => Sys2Proof.Machine.execWriteBltbmod op s
  | .writeBltamod op => Sys2Proof.Machine.execWriteBltamod op s
  | .writeBltdmod op => Sys2Proof.Machine.execWriteBltdmod op s
  | .writeBltcdat op => Sys2Proof.Machine.execWriteBltcdat op s
  | .writeBltbdat op => Sys2Proof.Machine.execWriteBltbdat op s
  | .writeBltadat op => Sys2Proof.Machine.execWriteBltadat op s
  | .writeDsksync op => Sys2Proof.Machine.execWriteDsksync op s
  | .writeCop1lch op => Sys2Proof.Machine.execWriteCop1lch op s
  | .writeCop1lcl op => Sys2Proof.Machine.execWriteCop1lcl op s
  | .writeCop2lch op => Sys2Proof.Machine.execWriteCop2lch op s
  | .writeCop2lcl op => Sys2Proof.Machine.execWriteCop2lcl op s
  | .writeCopjmp1 op => Sys2Proof.Machine.execWriteCopjmp1 op s
  | .writeCopjmp2 op => Sys2Proof.Machine.execWriteCopjmp2 op s
  | .writeCopins op => Sys2Proof.Machine.execWriteCopins op s
  | .writeDiwstrt op => Sys2Proof.Machine.execWriteDiwstrt op s
  | .writeDiwstop op => Sys2Proof.Machine.execWriteDiwstop op s
  | .writeDdfstrt op => Sys2Proof.Machine.execWriteDdfstrt op s
  | .writeDdfstop op => Sys2Proof.Machine.execWriteDdfstop op s
  | .writeDmacon op => Sys2Proof.Machine.execWriteDmacon op s
  | .writeClxcon op => Sys2Proof.Machine.execWriteClxcon op s
  | .writeIntena op => Sys2Proof.Machine.execWriteIntena op s
  | .writeIntreq op => Sys2Proof.Machine.execWriteIntreq op s
  | .writeAdkcon op => Sys2Proof.Machine.execWriteAdkcon op s
  | .writeAud0lch op => Sys2Proof.Machine.execWriteAud0lch op s
  | .writeAud0lcl op => Sys2Proof.Machine.execWriteAud0lcl op s
  | .writeAud0len op => Sys2Proof.Machine.execWriteAud0len op s
  | .writeAud0per op => Sys2Proof.Machine.execWriteAud0per op s
  | .writeAud0vol op => Sys2Proof.Machine.execWriteAud0vol op s
  | .writeAud0dat op => Sys2Proof.Machine.execWriteAud0dat op s
  | .writeAud1lch op => Sys2Proof.Machine.execWriteAud1lch op s
  | .writeAud1lcl op => Sys2Proof.Machine.execWriteAud1lcl op s
  | .writeAud1len op => Sys2Proof.Machine.execWriteAud1len op s
  | .writeAud1per op => Sys2Proof.Machine.execWriteAud1per op s
  | .writeAud1vol op => Sys2Proof.Machine.execWriteAud1vol op s
  | .writeAud1dat op => Sys2Proof.Machine.execWriteAud1dat op s
  | .writeAud2lch op => Sys2Proof.Machine.execWriteAud2lch op s
  | .writeAud2lcl op => Sys2Proof.Machine.execWriteAud2lcl op s
  | .writeAud2len op => Sys2Proof.Machine.execWriteAud2len op s
  | .writeAud2per op => Sys2Proof.Machine.execWriteAud2per op s
  | .writeAud2vol op => Sys2Proof.Machine.execWriteAud2vol op s
  | .writeAud2dat op => Sys2Proof.Machine.execWriteAud2dat op s
  | .writeAud3lch op => Sys2Proof.Machine.execWriteAud3lch op s
  | .writeAud3lcl op => Sys2Proof.Machine.execWriteAud3lcl op s
  | .writeAud3len op => Sys2Proof.Machine.execWriteAud3len op s
  | .writeAud3per op => Sys2Proof.Machine.execWriteAud3per op s
  | .writeAud3vol op => Sys2Proof.Machine.execWriteAud3vol op s
  | .writeAud3dat op => Sys2Proof.Machine.execWriteAud3dat op s
  | .writeBpl1pth op => Sys2Proof.Machine.execWriteBpl1pth op s
  | .writeBpl1ptl op => Sys2Proof.Machine.execWriteBpl1ptl op s
  | .writeBpl2pth op => Sys2Proof.Machine.execWriteBpl2pth op s
  | .writeBpl2ptl op => Sys2Proof.Machine.execWriteBpl2ptl op s
  | .writeBpl3pth op => Sys2Proof.Machine.execWriteBpl3pth op s
  | .writeBpl3ptl op => Sys2Proof.Machine.execWriteBpl3ptl op s
  | .writeBpl4pth op => Sys2Proof.Machine.execWriteBpl4pth op s
  | .writeBpl4ptl op => Sys2Proof.Machine.execWriteBpl4ptl op s
  | .writeBpl5pth op => Sys2Proof.Machine.execWriteBpl5pth op s
  | .writeBpl5ptl op => Sys2Proof.Machine.execWriteBpl5ptl op s
  | .writeBpl6pth op => Sys2Proof.Machine.execWriteBpl6pth op s
  | .writeBpl6ptl op => Sys2Proof.Machine.execWriteBpl6ptl op s
  | .writeBplcon0 op => Sys2Proof.Machine.execWriteBplcon0 op s
  | .writeBplcon1 op => Sys2Proof.Machine.execWriteBplcon1 op s
  | .writeBplcon2 op => Sys2Proof.Machine.execWriteBplcon2 op s
  | .writeBpl1mod op => Sys2Proof.Machine.execWriteBpl1mod op s
  | .writeBpl2mod op => Sys2Proof.Machine.execWriteBpl2mod op s
  | .writeBpl1dat op => Sys2Proof.Machine.execWriteBpl1dat op s
  | .writeBpl2dat op => Sys2Proof.Machine.execWriteBpl2dat op s
  | .writeBpl3dat op => Sys2Proof.Machine.execWriteBpl3dat op s
  | .writeBpl4dat op => Sys2Proof.Machine.execWriteBpl4dat op s
  | .writeBpl5dat op => Sys2Proof.Machine.execWriteBpl5dat op s
  | .writeBpl6dat op => Sys2Proof.Machine.execWriteBpl6dat op s
  | .writeSpr0pth op => Sys2Proof.Machine.execWriteSpr0pth op s
  | .writeSpr0ptl op => Sys2Proof.Machine.execWriteSpr0ptl op s
  | .writeSpr1pth op => Sys2Proof.Machine.execWriteSpr1pth op s
  | .writeSpr1ptl op => Sys2Proof.Machine.execWriteSpr1ptl op s
  | .writeSpr2pth op => Sys2Proof.Machine.execWriteSpr2pth op s
  | .writeSpr2ptl op => Sys2Proof.Machine.execWriteSpr2ptl op s
  | .writeSpr3pth op => Sys2Proof.Machine.execWriteSpr3pth op s
  | .writeSpr3ptl op => Sys2Proof.Machine.execWriteSpr3ptl op s
  | .writeSpr4pth op => Sys2Proof.Machine.execWriteSpr4pth op s
  | .writeSpr4ptl op => Sys2Proof.Machine.execWriteSpr4ptl op s
  | .writeSpr5pth op => Sys2Proof.Machine.execWriteSpr5pth op s
  | .writeSpr5ptl op => Sys2Proof.Machine.execWriteSpr5ptl op s
  | .writeSpr6pth op => Sys2Proof.Machine.execWriteSpr6pth op s
  | .writeSpr6ptl op => Sys2Proof.Machine.execWriteSpr6ptl op s
  | .writeSpr7pth op => Sys2Proof.Machine.execWriteSpr7pth op s
  | .writeSpr7ptl op => Sys2Proof.Machine.execWriteSpr7ptl op s
  | .writeSpr0pos op => Sys2Proof.Machine.execWriteSpr0pos op s
  | .writeSpr0ctl op => Sys2Proof.Machine.execWriteSpr0ctl op s
  | .writeSpr0data op => Sys2Proof.Machine.execWriteSpr0data op s
  | .writeSpr0datb op => Sys2Proof.Machine.execWriteSpr0datb op s
  | .writeSpr1pos op => Sys2Proof.Machine.execWriteSpr1pos op s
  | .writeSpr1ctl op => Sys2Proof.Machine.execWriteSpr1ctl op s
  | .writeSpr1data op => Sys2Proof.Machine.execWriteSpr1data op s
  | .writeSpr1datb op => Sys2Proof.Machine.execWriteSpr1datb op s
  | .writeSpr2pos op => Sys2Proof.Machine.execWriteSpr2pos op s
  | .writeSpr2ctl op => Sys2Proof.Machine.execWriteSpr2ctl op s
  | .writeSpr2data op => Sys2Proof.Machine.execWriteSpr2data op s
  | .writeSpr2datb op => Sys2Proof.Machine.execWriteSpr2datb op s
  | .writeSpr3pos op => Sys2Proof.Machine.execWriteSpr3pos op s
  | .writeSpr3ctl op => Sys2Proof.Machine.execWriteSpr3ctl op s
  | .writeSpr3data op => Sys2Proof.Machine.execWriteSpr3data op s
  | .writeSpr3datb op => Sys2Proof.Machine.execWriteSpr3datb op s
  | .writeSpr4pos op => Sys2Proof.Machine.execWriteSpr4pos op s
  | .writeSpr4ctl op => Sys2Proof.Machine.execWriteSpr4ctl op s
  | .writeSpr4data op => Sys2Proof.Machine.execWriteSpr4data op s
  | .writeSpr4datb op => Sys2Proof.Machine.execWriteSpr4datb op s
  | .writeSpr5pos op => Sys2Proof.Machine.execWriteSpr5pos op s
  | .writeSpr5ctl op => Sys2Proof.Machine.execWriteSpr5ctl op s
  | .writeSpr5data op => Sys2Proof.Machine.execWriteSpr5data op s
  | .writeSpr5datb op => Sys2Proof.Machine.execWriteSpr5datb op s
  | .writeSpr6pos op => Sys2Proof.Machine.execWriteSpr6pos op s
  | .writeSpr6ctl op => Sys2Proof.Machine.execWriteSpr6ctl op s
  | .writeSpr6data op => Sys2Proof.Machine.execWriteSpr6data op s
  | .writeSpr6datb op => Sys2Proof.Machine.execWriteSpr6datb op s
  | .writeSpr7pos op => Sys2Proof.Machine.execWriteSpr7pos op s
  | .writeSpr7ctl op => Sys2Proof.Machine.execWriteSpr7ctl op s
  | .writeSpr7data op => Sys2Proof.Machine.execWriteSpr7data op s
  | .writeSpr7datb op => Sys2Proof.Machine.execWriteSpr7datb op s
  | .writeColor00 op => Sys2Proof.Machine.execWriteColor00 op s
  | .writeColor01 op => Sys2Proof.Machine.execWriteColor01 op s
  | .writeColor02 op => Sys2Proof.Machine.execWriteColor02 op s
  | .writeColor03 op => Sys2Proof.Machine.execWriteColor03 op s
  | .writeColor04 op => Sys2Proof.Machine.execWriteColor04 op s
  | .writeColor05 op => Sys2Proof.Machine.execWriteColor05 op s
  | .writeColor06 op => Sys2Proof.Machine.execWriteColor06 op s
  | .writeColor07 op => Sys2Proof.Machine.execWriteColor07 op s
  | .writeColor08 op => Sys2Proof.Machine.execWriteColor08 op s
  | .writeColor09 op => Sys2Proof.Machine.execWriteColor09 op s
  | .writeColor10 op => Sys2Proof.Machine.execWriteColor10 op s
  | .writeColor11 op => Sys2Proof.Machine.execWriteColor11 op s
  | .writeColor12 op => Sys2Proof.Machine.execWriteColor12 op s
  | .writeColor13 op => Sys2Proof.Machine.execWriteColor13 op s
  | .writeColor14 op => Sys2Proof.Machine.execWriteColor14 op s
  | .writeColor15 op => Sys2Proof.Machine.execWriteColor15 op s
  | .writeColor16 op => Sys2Proof.Machine.execWriteColor16 op s
  | .writeColor17 op => Sys2Proof.Machine.execWriteColor17 op s
  | .writeColor18 op => Sys2Proof.Machine.execWriteColor18 op s
  | .writeColor19 op => Sys2Proof.Machine.execWriteColor19 op s
  | .writeColor20 op => Sys2Proof.Machine.execWriteColor20 op s
  | .writeColor21 op => Sys2Proof.Machine.execWriteColor21 op s
  | .writeColor22 op => Sys2Proof.Machine.execWriteColor22 op s
  | .writeColor23 op => Sys2Proof.Machine.execWriteColor23 op s
  | .writeColor24 op => Sys2Proof.Machine.execWriteColor24 op s
  | .writeColor25 op => Sys2Proof.Machine.execWriteColor25 op s
  | .writeColor26 op => Sys2Proof.Machine.execWriteColor26 op s
  | .writeColor27 op => Sys2Proof.Machine.execWriteColor27 op s
  | .writeColor28 op => Sys2Proof.Machine.execWriteColor28 op s
  | .writeColor29 op => Sys2Proof.Machine.execWriteColor29 op s
  | .writeColor30 op => Sys2Proof.Machine.execWriteColor30 op s
  | .writeColor31 op => Sys2Proof.Machine.execWriteColor31 op s
  | .accessUnimplementedOffset off op => Sys2Proof.Machine.execAccessUnimplementedOffset off op s

end Sys2Proof.Machine
end

