-- ==== Sys2Proof/Machine/Cpu.lean ====
section
/-! DEFINITION. The CPU port: the address decoder's accesses, their issue and their grant
(spec/20_memory.md; rules R205, R222). -/

namespace Sys2Proof.Machine

/-! ### Decoding an address (rules R102, R105, R112, R120) -/

/-- The region of an address by the table (rule R102). -/
def tableRegion (s : State) (a : Addr) : Region := s.mem.memSrc.getD (a.toNat / 0x10000) .unmapped

/-- A FAST access at an offset that no RAM backs (rules R105, R112). -/
def beyondFast (s : State) (a : Addr) : Bool :=
  tableRegion s a == .fast && decide (s.cfg.fastSize ≤ regionOffset s.cfg .fast a)

/-- The region that answers an access (rules R102, R105). -/
def regionOf (s : State) (a : Addr) : Region := if beyondFast s a then .unmapped else tableRegion s a

/-- The regions whose accesses the arbiter grants (rule R120). -/
def isArbitrated : Region → Bool
  | .chip | .slow | .cia | .rtc | .custom | .autoconf => true
  | .fast | .rom | .wom | .ext | .unmapped => false

/-- The byte of a storage region (rules R105, R107, R113). -/
def storageByte (s : State) (r : Region) (a : Addr) : Byte :=
  match r with
  | .chip => s.mem.chip.byteAt (regionOffset s.cfg .chip a)
  | .slow => s.mem.slow.byteAt (regionOffset s.cfg .slow a)
  | .fast => s.mem.fast.byteAt (regionOffset s.cfg .fast a)
  | .wom => s.mem.wom.byteAt (regionOffset s.cfg .wom a)
  | .rom => Memory.byteAt (romImage s.cfg).bytes (regionOffset s.cfg .rom a)
  | .ext => Memory.byteAt (extImage s.cfg).bytes (regionOffset s.cfg .ext a)
  | .unmapped | .cia | .rtc | .custom | .autoconf => 0#8

/-- Storing a byte in a storage region; ROM, EXT and a locked WOM ignore it (rules R107, R113). -/
def storeByte (r : Region) (a : Addr) (v : Byte) (s : State) : State :=
  match r with
  | .chip => { s with mem := { s.mem with chip := s.mem.chip.setByte (regionOffset s.cfg .chip a) v } }
  | .slow => { s with mem := { s.mem with slow := s.mem.slow.setByte (regionOffset s.cfg .slow a) v } }
  | .fast => { s with mem := { s.mem with fast := s.mem.fast.setByte (regionOffset s.cfg .fast a) v } }
  | .wom =>
    if s.mem.womLocked then s
    else { s with mem := { s.mem with wom := s.mem.wom.setByte (regionOffset s.cfg .wom a) v } }
  | .rom | .ext | .unmapped | .cia | .rtc | .custom | .autoconf => s

/-- Why an access to a non-existent address is flagged (rule R112). -/
def missingCause (s : State) (a : Addr) : ViolationCause := if beyondFast s a then .beyondFast else .unmapped

/-- The custom-register offset of an address (rule R114). -/
def registerOffset (a : Addr) : RegOff := a.extractLsb' 0 9 &&& 0x1FE#9

/-- The half of a word that a byte address selects (rules R106, R114). -/
def selectHalf (a : Addr) (v : Word) : Byte := if a.getLsbD 0 then v.extractLsb' 0 8 else v.extractLsb' 8 8

/-! ### The accesses (rules R107-R115) -/

/-- The CIA selection of an address (rule R115). -/
def ciaTarget (a : Addr) : IoTarget := .cia (!a.getLsbD 12) (!a.getLsbD 13) (a.extractLsb' 8 4)

/-- A read of `width` bytes dispatched to a collaborator with the full address (rule R115); its value is a free
word (log entry 10), of which a byte access takes the low byte. -/
def ioRead (t : IoTarget) (a : Addr) (width : Nat) (s : State) : State :=
  setReadData (if width = 1 then ((collaboratorWord s).setWidth 8).setWidth 32 else (collaboratorWord s).setWidth 32)
    (countDraw (forward (.ioRead t a width) s))

/-- `read16` at an even address, the value left in `readData`. -/
def read16 (a : Addr) (s : State) : Result :=
  match regionOf s a with
  | .custom => exec (decodeRegister (registerOffset a) .read) s
  | .cia => .next (ioRead (ciaTarget a) a 2 s)
  | .rtc => .next (ioRead .rtc a 2 s)
  | .autoconf => .next (ioRead .autoconf a 2 s)
  | .unmapped =>
    .next (setReadData ((busQuirk s).setWidth 32)
      (recordViolation { addr := a, width := 2, write := false, cause := missingCause s a } s))
  | .chip | .slow | .fast | .rom | .wom | .ext =>
    .next (setReadData
      ((wordOfBytes (storageByte s (regionOf s a) a) (storageByte s (regionOf s a) (a + 1#24))).setWidth 32) s)

/-- `read8`, the value left in `readData` (rules R107, R111, R114, R115). -/
def read8 (a : Addr) (s : State) : Result :=
  match regionOf s a with
  | .custom =>
    andThen (exec (decodeRegister (registerOffset a) .read) s)
      (fun t => .next (setReadData ((selectHalf a (t.cpu.readData.setWidth 16)).setWidth 32) t))
  | .cia => .next (ioRead (ciaTarget a) a 1 s)
  | .rtc => .next (ioRead .rtc a 1 s)
  | .autoconf => .next (ioRead .autoconf a 1 s)
  | .unmapped =>
    .next (setReadData ((selectHalf a (busQuirk s)).setWidth 32)
      (recordViolation { addr := a, width := 1, write := false, cause := missingCause s a } s))
  | .chip | .slow | .fast | .rom | .wom | .ext =>
    .next (setReadData ((storageByte s (regionOf s a) a).setWidth 32) s)

/-- `write16` at an even address (rules R107, R111, R113-R115). -/
def write16 (a : Addr) (v : Word) (s : State) : Result :=
  match regionOf s a with
  | .custom => exec (decodeRegister (registerOffset a) (.write v)) s
  | .cia => .next (forward (.ioWrite (ciaTarget a) a 2 v) s)
  | .rtc => .next (forward (.ioWrite .rtc a 2 v) s)
  | .autoconf => .next (forward (.ioWrite .autoconf a 2 v) s)
  | .unmapped =>
    .next (recordViolation { addr := a, width := 2, write := true, cause := missingCause s a } s)
  | .chip | .slow | .fast | .rom | .wom | .ext =>
    .next (storeByte (regionOf s a) (a + 1#24) (v.extractLsb' 0 8)
      (storeByte (regionOf s a) a (v.extractLsb' 8 8) s))

/-- `write8` (rules R107, R111, R113-R115, R510): a custom register takes the replicated byte. -/
def write8 (a : Addr) (v : Byte) (s : State) : Result :=
  match regionOf s a with
  | .custom => exec (decodeRegister (registerOffset a) (.write (v ++ v : BitVec 16))) s
  | .cia => .next (forward (.ioWrite (ciaTarget a) a 1 (v.setWidth 16)) s)
  | .rtc => .next (forward (.ioWrite .rtc a 1 (v.setWidth 16)) s)
  | .autoconf => .next (forward (.ioWrite .autoconf a 1 (v.setWidth 16)) s)
  | .unmapped =>
    .next (recordViolation { addr := a, width := 1, write := true, cause := missingCause s a } s)
  | .chip | .slow | .fast | .rom | .wom | .ext => .next (storeByte (regionOf s a) a v s)

/-! ### One transfer of an access -/

/-- An address with bit 0 cleared (rule R109). -/
def evenAddr (a : Addr) : Addr := a &&& 0xFFFFFE#24

/-- Record the violation of an odd address (rules R109, R112). -/
def flagOdd (a : Addr) (width : Nat) (write : Bool) (s : State) : State :=
  if a.getLsbD 0 then recordViolation { addr := a, width := width, write := write, cause := .oddAddress } s
  else s

/-- The transfer of an access, or of the high half of a 32-bit one (rules R100, R108, R109).  Each transfer to an
unmapped address is flagged for itself, beside the odd address of the access (DESIGN CHOICE, log entry 17). -/
def accessTransfer (op : CpuOp) (a : Addr) (s : State) : Result :=
  match op with
  | .read8 => read8 a s
  | .read16 => read16 (evenAddr a) (flagOdd a 2 false s)
  | .read32 => read16 (evenAddr a) (flagOdd a 4 false s)
  | .readLow hi =>
    andThen (read16 (evenAddr a) s)
      (fun t => .next (setReadData (hi ++ t.cpu.readData.setWidth 16 : BitVec 32) t))
  | .write8 v => write8 a v s
  | .write16 v => write16 (evenAddr a) v (flagOdd a 2 true s)
  | .write32 v => write16 (evenAddr a) (v.extractLsb' 16 16) (flagOdd a 4 true s)

/-- The second transfer of a 32-bit access (rule R108). -/
def secondHalf (op : CpuOp) (a : Addr) (s : State) : List CpuAccess :=
  match op with
  | .read32 => [{ cost := 0, addr := (evenAddr a + 2#24).setWidth 32, op := .readLow (s.cpu.readData.setWidth 16) }]
  | .write32 v => [{ cost := 0, addr := (evenAddr a + 2#24).setWidth 32, op := .write16 (v.extractLsb' 0 16) }]
  | .read8 | .read16 | .readLow _ | .write8 _ | .write16 _ => []

/-- The word a transfer puts on the bus (rules R121, R219); a byte stands in both halves (log entry 14). -/
def accessWord (op : CpuOp) (s : State) : Word :=
  match op with
  | .read8 => (s.cpu.readData.setWidth 8 ++ s.cpu.readData.setWidth 8 : BitVec 16)
  | .read16 | .read32 | .readLow _ => s.cpu.readData.setWidth 16
  | .write8 v => (v ++ v : BitVec 16)
  | .write16 v => v
  | .write32 v => v.extractLsb' 16 16

/-- A cost in slots at speed 1, scaled by the CPU's speed (rule R9, decision D65). -/
def scaledCost (c : Cfg) (cost : Nat) : Nat := cost / c.cpuSpeed

/-- The CPU's clock advanced by the cost that an instruction reports after its last access (rules R6, R205). -/
def spendCost (cost : Nat) (s : State) : State :=
  { s with bus := { s.bus with cpuClock := s.bus.cpuClock + BitVec.ofNat 64 (scaledCost s.cfg cost) } }

/-- The CPU port with what is left of the instruction in progress: when no access is left it has ended, and its
last cost moves the clock, `newClock <- cpuClock` (rule R205). -/
def continueInstr (rest : List CpuAccess) (cost : Nat) (later : List CpuInstr) (s : State) : State :=
  match rest with
  | [] => spendCost cost { s with cpu := { s.cpu with queue := later } }
  | _ :: _ => { s with cpu := { s.cpu with queue := { accesses := rest, cost := cost } :: later } }

/-- After a transfer: the end of the request, the CPU's clock two slots on, and the rest of the instruction
(rules R8, R205, R222). -/
def finishAccess (acc : CpuAccess) (rest : List CpuAccess) (cost : Nat) (later : List CpuInstr) (s : State) :
    State :=
  continueInstr (secondHalf acc.op (acc.addr.setWidth 24) s ++ rest) cost later
    { s with bus := { s.bus with reqCPU := false, cpuClock := s.now + 2#64 } }

/-! ### Issue and grant (rule R222) -/

/-- The CPU has reached the issue of an access: its clock, and the cost scaled by the CPU's speed (rules R205,
R222, R9). -/
def issueReached (acc : CpuAccess) (s : State) : Bool :=
  decide (s.bus.cpuClock.toNat + scaledCost s.cfg acc.cost ≤ s.now.toNat)

/-- The instructions without an access that the CPU's clock has reached, executed in order, each moving the clock
by its cost (rules R6, R205). -/
def runIdle : List CpuInstr → State → State
  | [], s => { s with cpu := { s.cpu with queue := [] } }
  | i :: later, s =>
    if i.accesses.isEmpty && decide (s.bus.cpuClock.toNat ≤ s.now.toNat) then runIdle later (spendCost i.cost s)
    else { s with cpu := { s.cpu with queue := i :: later } }

/-- Issue the access: an arbitrated one requests the bus, any other completes at once (rules R120, R222).  The
region that the address has at the issue decides (DESIGN CHOICE, log entry 37). -/
def issueAccess (acc : CpuAccess) (rest : List CpuAccess) (cost : Nat) (later : List CpuInstr) (s : State) :
    Result :=
  if !issueReached acc s then .next s
  else if isArbitrated (regionOf s (acc.addr.setWidth 24)) then
    .next { s with bus := { s.bus with reqCPU := true } }
  else
    andThen (accessTransfer acc.op (acc.addr.setWidth 24) s)
      (fun t => .next (finishAccess acc rest cost later t))

/-- Issue the next access of the instruction in progress. -/
def issueNext (s : State) : Result :=
  match s.cpu.queue with
  | { accesses := acc :: rest, cost := cost } :: later => issueAccess acc rest cost later s
  | { accesses := [], cost := _ } :: _ => .next s
  | [] => .next s

/-- The CPU collaborator in a slot (rules R205, R222): unless it waits for the bus, the instructions that make no
access, then the next access. -/
def cpuIssue (s : State) : Result :=
  if s.bus.reqCPU then .next s else issueNext (runIdle s.cpu.queue s)

/-- The granted slot of the CPU: the transfer, the bus record, the end of the access (rules R121, R222).  The
address is decoded anew here, so the transfer goes to the region it has at the grant (DESIGN CHOICE, log entry
37). -/
def cpuTransfer (s : State) : Result :=
  match s.cpu.queue with
  | { accesses := acc :: rest, cost := cost } :: later =>
    andThen (accessTransfer acc.op (acc.addr.setWidth 24) s)
      (fun t => .next (finishAccess acc rest cost later (recordBus .cpu (accessWord acc.op t) t)))
  | { accesses := [], cost := _ } :: _ => .next { s with bus := { s.bus with reqCPU := false } }
  | [] => .next { s with bus := { s.bus with reqCPU := false } }

/-! ### Spy reads (rules R100, R123) -/

/-- A spy read of a byte: no clock, no side effect. -/
def spyRead8 (a : Addr) (s : State) : Byte :=
  match regionOf s a with
  | .custom => selectHalf a (spyRead (registerOffset a).toNat s)
  | .cia | .rtc | .autoconf => (collaboratorWord s).setWidth 8
  | .unmapped => selectHalf a (busQuirk s)
  | .chip | .slow | .fast | .rom | .wom | .ext => storageByte s (regionOf s a) a

/-- The word of a spy read at an even address. -/
def spyWord (a : Addr) (s : State) : Word :=
  match regionOf s a with
  | .custom => spyRead (registerOffset a).toNat s
  | .cia | .rtc | .autoconf => collaboratorWord s
  | .unmapped => busQuirk s
  | .chip | .slow | .fast | .rom | .wom | .ext =>
    wordOfBytes (storageByte s (regionOf s a) a) (storageByte s (regionOf s a) (a + 1#24))

/-- A spy read of a word: at an odd address that of the even address below, without the record (rules R13,
R109). -/
def spyRead16 (a : Addr) (s : State) : Word := spyWord (evenAddr a) s

/-- A read at an even address is answered by a collaborator. -/
def collaboratorAnswers (a : Addr) (s : State) : Bool :=
  match regionOf s a with
  | .custom => regClass (registerOffset a).toNat == .readCollaborator
  | .cia | .rtc | .autoconf => true
  | .unmapped | .chip | .slow | .fast | .rom | .wom | .ext => false

/-- A spy read of a long word, high word first (rules R13, R108): the low word is the next read, also where a
collaborator answers both. -/
def spyRead32 (a : Addr) (s : State) : Long :=
  (spyWord (evenAddr a) s
    ++ spyWord (evenAddr a + 2#24) (if collaboratorAnswers (evenAddr a) s then countDraw s else s) : BitVec 32)

end Sys2Proof.Machine
end

