-- ==== Sys2Proof/Machine/Lifecycle.lean ====
section
/-! DEFINITION. Configuration, power-on, reset, power-off, and the inputs of the collaborators and the host
(rules R6, R9, R10, R116, R535, R536, R560-R564). -/

namespace Sys2Proof.Machine

/-! ### Legal configurations (rules R9, R163) -/

/-- A ROM image has a legal size and its cells are in canonical form inside it. -/
def Image.valid (sizes : List Nat) (i : Image) : Bool :=
  sizes.contains i.size && Memory.wf i.bytes && i.bytes.all (fun c => decide (c.1 < i.size))

/-- A micro-program: at most 6 well-formed words, one that repeats, and a last one that ends the blit
(rules R158, R163, R320). -/
def validProgram (p : List Word) : Bool :=
  decide (p.length ≤ 6) && p.all microWellFormed && p.any (fun w => hasAction w .repeat)
    && (match p.getLast? with | some w => hasAction w .bltdone | none => false)

/-- The lengths of a line and of a frame (rule R9): the PAL numbers, or any that the beam counters hold. -/
def validVideo (c : Cfg) : Bool :=
  match c.video with
  | .pal => c.lineSlots == 227 && c.frameLinesLong == 313 && c.frameLinesShort == 312
  | .ntsc => decide (0 < c.lineSlots) && decide (c.lineSlots ≤ 256)
      && decide (0 < c.frameLinesLong) && decide (c.frameLinesLong ≤ 512)
      && decide (0 < c.frameLinesShort) && decide (c.frameLinesShort ≤ 512)

/-- The fixed DMA slots (rules R9, R211, decision D3): 4 of refresh and at most 3 of the disk (the types hold 4 of
audio and 2 for each of 8 sprites).  Which positions they take is open (DESIGN CHOICE, log entry 25). -/
def SlotMap.valid (m : SlotMap) : Bool := m.refresh.length == 4 && decide (m.disk.length ≤ 3)

/-- The configuration is legal (rule R9). -/
def Cfg.valid (c : Cfg) : Bool :=
  [0x40000, 0x80000].contains c.chipSize && [0, 0x40000, 0x80000].contains c.slowSize
    && decide (c.fastSize ≤ 0x800000) && c.fastSize % 0x10000 == 0 && [1, 2, 4].contains c.cpuSpeed
    && (match c.rom with | none => true | some i => Image.valid [0x10000, 0x80000] i)
    && (match c.extRom with | none => true | some e => Image.valid [0x40000] e.2)
    && (match c.bootRom with | none => true | some i => Image.valid [0x2000, 0x10000] i)
    && validVideo c && SlotMap.valid c.slotMap && c.bltProgram.length == 64 && c.bltProgram.all validProgram
    && decide (17 ≤ c.dmaAddrBits) && decide (c.dmaAddrBits ≤ 32)

/-! ### Lifecycle -/

/-- Rebuild the region table (rule R103). -/
def rebuildMemSrc (s : State) : State :=
  { s with mem := { s.mem with memSrc := buildMemSrc s.cfg s.mem.ovl s.mem.womLocked } }

/-- Configure (rules R9, R10, R535, R564): accepted only while powered off and only when legal; else the host
is told and nothing changes. -/
def configure (c : Cfg) (s : State) : State :=
  if !s.powered && Cfg.valid c then rebuildMemSrc { s with cfg := c } else notify .config s

/-- Power-on (rules R536, R541, R562). -/
def powerOn (memory : Bool) (s : State) : Result :=
  if s.powered then .next s
  else if s.cfg.rom.isNone then .next (notify .romMissing s)
  else if !memory then .fault .memoryAllocationFailure
  else .next (notify .memLayout (notify .powerOn { State.cold s.cfg with ext := s.ext }))

/-- Reset (rules R560, R561, R563): every element at its reset value; memory, the WOM lock and the frame
buffers kept. -/
def reset (s : State) : State :=
  if s.powered then
    notify .reset (rebuildMemSrc
      { State.cold s.cfg with mem := { s.mem with ovl := true }, frames := s.frames, ext := s.ext })
  else s

/-- Power-off (rule R564). -/
def powerOff (s : State) : State :=
  if s.powered then notify .powerOff { State.cold s.cfg with powered := false, ext := s.ext } else s

/-! ### Inputs -/

/-- An input that only a powered machine takes. -/
def whenPowered (f : State → State) (s : State) : State := if s.powered then f s else s

/-- The CPU's clock brought to the current slot, when it is behind (log entry 20). -/
def catchUp (s : State) : State :=
  { s with bus := { s.bus with cpuClock := if s.bus.cpuClock.toNat < s.now.toNat then s.now else s.bus.cpuClock } }

/-- Instructions of the CPU collaborator (rules R6, R205): they follow those it has; a CPU that had none begins
them no earlier than now. -/
def takeInstructions (l : List CpuInstr) (s : State) : State :=
  let t := if s.cpu.queue.isEmpty then catchUp s else s
  { t with cpu := { t.cpu with queue := t.cpu.queue ++ l } }

/-- An event of a collaborator or the host, in a slot that is its own (rules R206, R210). -/
def foreignSchedule (slot : Fin 13) (trigger : BitVec 64) (id : Word) (s : State) : State :=
  if foreignSlot slot then scheduleAbs slot trigger (.other id) s else s

/-- One input. -/
def applyInput (i : Input) (s : State) : Result :=
  match i with
  | .overlay level =>
    .next (whenPowered (fun s => rebuildMemSrc { s with mem := { s.mem with ovl := level } }) s)
  | .womLock =>
    .next (whenPowered (fun s => rebuildMemSrc { s with mem := { s.mem with womLocked := true } }) s)
  | .irq source => .next (whenPowered (raiseIrq source.bit) s)
  | .disk port => .next { s with ext := { s.ext with disk := port } }
  | .audio n port => .next { s with ext := { s.ext with audio := s.ext.audio.set n port } }
  | .cpu instructions => .next (whenPowered (takeInstructions instructions) s)
  | .schedule slot trigger id => .next (whenPowered (foreignSchedule slot trigger id) s)
  | .configure c => .next (configure c s)
  | .powerOn memory => powerOn memory s
  | .reset => .next (reset s)
  | .powerOff => .next (powerOff s)

/-- Take the inputs that arrive before this slot; the next one comes a slot nearer. -/
def takeInputs : List TimedInput → State → Result
  | [], s => .next { s with ext := { s.ext with inputs := [] } }
  | t :: l, s =>
    if t.wait = 0 then andThen (applyInput t.input s) (takeInputs l)
    else .next { s with ext := { s.ext with inputs := { t with wait := t.wait - 1 } :: l } }

end Sys2Proof.Machine
end

