-- ==== Sys2Proof/Machine/Slot.lean ====
section
/-! DEFINITION. One slot of the machine in the order of rule R132, and the placement of an instruction where
the next slot runs it. -/

namespace Sys2Proof.Machine

/-! ### The steps of the programmable agents -/

/-- The Copper's step in a Copper slot with owner `o` (rules R265-R267, R269, R276, R279, R280): a fetch only
when the slot is granted to it (rule R217). -/
def copperStep (o : BusOwner) (s : State) : Result :=
  match s.copper.st with
  | .fetch1 | .fetch2 => .next (if o = .copper then copperFetch s else s)
  | .execute => exec (decodeCopper s.copper.ir1 s.copper.ir2) s
  | .waiting => .next (copperRecheck s)
  | .skipped => .next (setCopState .fetch1 s)
  | .halted => .next s

/-- The micro-instruction at `bltpc`, when there is one (rules R163, R320): a word that breaks rule R158 is
refused. -/
def withMicro (f : Word → Instr → Result) (s : State) : Result :=
  match blitterInst s.blitter with
  | none => .next s
  | some w =>
    match decodeMicro w with
    | .ok i => f w i
    | .error _ => .refused (.illFormedMicroWord w)

/-- The Blitter's transfer in a slot that it owns (rules R132, R159, R322). -/
def blitterTransfer (s : State) : Result := withMicro (fun w _ => .next (microTransfer w s)) s

/-- `BLT_STEP` in a slot with owner `o` (rules R132, R210, R318): what the micro-instruction does without the bus,
after the Copper's step; where the Blitter owns the slot its transfer has been made. -/
def blitterStep (o : BusOwner) (s : State) : Result :=
  withMicro (fun w i => if o = .blitter then .next (microActions w s) else exec i s) s

/-- The bitplane fetch of a slot with owner `o` (rules R217, R226). -/
def bitplaneStep (o : BusOwner) (s : State) : State :=
  match bplFetchPlane s with
  | some p => if o = .bitplane then bitplaneTransfer p s else s
  | none => s

/-! ### The event scheduler's handlers (rules R209, R210) -/

/-- The event of a collaborator or the host, handed to it; it schedules its slot again if it wants to. -/
def foreignStep (i : Fin 13) (s : State) : State :=
  forward (.event i s.events.slots[i].id s.events.slots[i].data) s

/-- The handler of an event slot in a slot with owner `o`.  Every handler but REG's finds its slot cancelled, and
may schedule it again. -/
def handleEvent (o : BusOwner) (i : Fin 13) (s : State) : Result :=
  if i = slotReg then .next (applyDue s)
  else if i = slotCopper then copperStep o (cancel i s)
  else if i = slotBlitter then blitterStep o (cancel i s)
  else if i = slotBitplane then .next (bitplaneStep o (cancel i s))
  else .next (cancel i (foreignStep i s))

/-- An event slot served when it is due (rule R209). -/
def serveEvent (o : BusOwner) (i : Fin 13) (s : State) : Result :=
  if eventDue i s then handleEvent o i s else .next s

/-- `service_due()` over event slots, in the order given (rule R209). -/
def serveEvents (o : BusOwner) : List (Fin 13) → State → Result
  | [], s => .next s
  | i :: l, s => andThen (serveEvent o i s) (serveEvents o l)

/-- The owner's transfer (step 3 of rule R132; rules R215, R217, R219, R283).  A fetch of the Copper or of the
bitplanes is its event, served here; of the Blitter's word only the transfer comes here, its other actions are its
event's, after the Copper's. -/
def ownerTransfer (o : BusOwner) (s : State) : Result :=
  match o with
  | .none => .next s
  | .refresh => .next (refreshTransfer s)
  | .disk => .next (diskTransfer s)
  | .audio =>
    match audioRequest s with
    | some n => .next (audioTransfer n s)
    | none => .next s
  | .sprite =>
    match spriteRequest s with
    | some n => .next (spriteTransfer n s)
    | none => .next s
  | .bitplane => serveEvent o slotBitplane s
  | .copper => serveEvent o slotCopper s
  | .blitter => blitterTransfer s
  | .cpu => cpuTransfer s

/-- Steps 4 to 8 of rule R132: the bitplane shifter, the display window's changes, the beam. -/
def finishSlot (s : State) : State := beamAdvance (diwHorizontal (shifterTick s))

/-- Step 3 of rule R132: the owner's transfer, then the events from COPPER on, in index order. -/
def transfers (o : BusOwner) (s : State) : Result :=
  andThen (ownerTransfer o s) (serveEvents o lateSlots)

/-- The part of a slot from arbitration on. -/
def busSlot (s : State) : Result :=
  andThen (transfers (ownerOf s) (arbitrate s)) (fun t => .next (finishSlot t))

/-- One slot, `AgnusStep()` (rules R132, R200): the events up to REG, the CPU's issue, then the bus. -/
def slot (s : State) : Result :=
  andThen (serveEvents .none earlySlots s) (fun t => andThen (cpuIssue t) (fun u => busSlot (windowTick u)))

/-- One step of the machine: the inputs that arrive, then, when it is powered, one slot. -/
def machineStep (s : State) : Result :=
  andThen (takeInputs s.ext.inputs s) (fun t => if t.powered then slot t else .next t)

/-! ### Placing an instruction -/

/-- The first Copper slot of a line for a parity. -/
def firstCopperSlot (c : Cfg) : BitVec 8 := if c.copperParity = .odd then 1#8 else 0#8

/-- A Copper instruction stored at `COPPC` and fetched, about to execute in a Copper slot. -/
def placeCopper (i1 i2 : Word) (s : State) : State :=
  let s1 := chipWrite16 (ptrAdd s.cfg s.copper.pc 2#32) i2 (chipWrite16 s.copper.pc i1 s)
  { s1 with
    ctl := { s1.ctl with dmacon := s1.ctl.dmacon ||| 0x0280#16 },
    beam := { s1.beam with h := firstCopperSlot s1.cfg },
    copper := { s1.copper with ir1 := i1, ir2 := i2, pc := ptrAdd s1.cfg s1.copper.pc 4#32, st := .execute,
                               skipNext := false } }

/-- A micro-instruction as the program of a running blit, in a Blitter slot. -/
def placeMicro (w : Word) (s : State) : State :=
  { s with
    ctl := { s.ctl with dmacon := s.ctl.dmacon ||| 0x0240#16 },
    beam := { s.beam with h := 0#8 },
    bus := { s.bus with cpuWaitSlots := 0 },
    blitter := { s.blitter with prog := some [w], pc := 0, busy := true } }

/-- The CPU access of a register operation (rules R108, R114, R160). -/
def registerAccess (off : RegOff) (op : RegOp) : CpuAccess :=
  { cost := 0, addr := 0xDFF000#32 ||| off.setWidth 32,
    op := match op with | .read => .read16 | .write v => .write16 v }

/-- A register operation as the CPU's next access. -/
def placeAccess (off : RegOff) (op : RegOp) (s : State) : State :=
  { s with
    beam := { s.beam with h := 0#8 },
    bus := { s.bus with reqCPU := false, cpuClock := s.now },
    cpu := { s.cpu with queue := { accesses := [registerAccess off op], cost := 0 } :: s.cpu.queue } }

/-- A program selector's entry as the program of a running blit (the table gives these rows no word). -/
def placeProgram (index : Nat) (s : State) : State := selectProgram index s

/-- An instruction placed where the next slot runs it. -/
def placeCode (c : Code) (s : State) : State :=
  match c with
  | .copper i1 i2 => placeCopper i1 i2 s
  | .micro w => placeMicro w s
  | .register off op => placeAccess off op s
  | .program shape fill fast => placeProgram (programIndex shape fill fast) s
  | .lineProgram => selectLine s
  | .fastPath => fastBlit s

end Sys2Proof.Machine
end

