-- ==== Sys2Proof/Machine/Step.lean ====
section
/-! DEFINITION. The step of the machine, and the placement of a table row's word. -/

namespace Sys2Proof.Machine

/-- One step: one slot (rule R200). -/
def step (s : State) : Host.Outcome State Fault Refusal := machineStep s

/-- The state with a table row's word placed where the next step runs it (log entry 15). -/
def State.withFetchWord (s : State) (nbits w : Nat) : State := placeCode (codeOfTableWord nbits w) s

end Sys2Proof.Machine
end

