-- ==== Sys2Proof/Safety.lean ====
section
/-! DEFINITION. What a safe run is: the invariants of the machine, and the lists of instructions that the
claims speak about. -/

namespace Sys2Proof.Machine

/-! ### Invariants -/

/-- Every memory is in canonical form (log entry 2). -/
def MemoryCanonical (s : State) : Prop :=
  s.mem.chip.wf = true ∧ s.mem.slow.wf = true ∧ s.mem.fast.wf = true ∧ s.mem.wom.wf = true

/-- The level last pushed to the CPU glue is the level of the request and enable bits (rules R525, R526). -/
def LevelPushed (s : State) : Prop := s.ctl.ipl = interruptLevel s.ctl.intreq s.ctl.intena

/-- The region table is the table of the configuration, the overlay line and the WOM lock (rule R103). -/
def TableBuilt (s : State) : Prop := s.mem.memSrc = buildMemSrc s.cfg s.mem.ovl s.mem.womLocked

/-- A pointer or a modulo is even. -/
def Even32 (p : Ptr) : Prop := p.getLsbD 0 = false
/-- A 16-bit modulo is even. -/
def Even16 (m : Word) : Prop := m.getLsbD 0 = false

/-- Every DMA pointer, location register and modulo is even (rules R39, R45, R46, R54, R57, R70). -/
structure PointersEven (s : State) : Prop where
  coppc  : Even32 s.copper.pc
  cop1lc : Even32 s.copper.cop1lc
  cop2lc : Even32 s.copper.cop2lc
  bltapt : Even32 s.blitter.bltapt
  bltbpt : Even32 s.blitter.bltbpt
  bltcpt : Even32 s.blitter.bltcpt
  bltdpt : Even32 s.blitter.bltdpt
  bltmod : Even16 s.blitter.bltamod ∧ Even16 s.blitter.bltbmod ∧ Even16 s.blitter.bltcmod
    ∧ Even16 s.blitter.bltdmod
  bplmod : Even16 s.bpl.bpl1mod ∧ Even16 s.bpl.bpl2mod
  bplpt  : ∀ p : Fin 6, Even32 s.bpl.bplpt[p]
  sprpt  : ∀ n : Fin 8, Even32 s.sprites[n].ptr

/-- Every word of the micro-program table, and of the program that runs, is well-formed (rules R158, R163). -/
def ProgramsWellFormed (s : State) : Prop :=
  (∀ p ∈ s.cfg.bltProgram, ∀ w ∈ p, microWellFormed w = true) ∧
  (∀ p, s.blitter.prog = some p → ∀ w ∈ p, microWellFormed w = true)

/-- No slot of the line has two owners, and every recorded owner is one (rules R215, R216). -/
def BusExclusive (s : State) : Prop :=
  (s.bus.line.map BusEntry.slot).Nodup ∧ ∀ e ∈ s.bus.line, e.owner ≠ .none

/-- The invariant of the machine. -/
structure Inv (s : State) : Prop where
  memory   : MemoryCanonical s
  level    : LevelPushed s
  table    : TableBuilt s
  pointers : PointersEven s
  programs : ProgramsWellFormed s
  bus      : BusExclusive s

/-! ### Running the Blitter alone -/

/-- The Blitter's current micro-instruction executed, when there is one. -/
def blitterOne (s : State) : State :=
  match blitterInst s.blitter with
  | none => s
  | some w => executeMicro w s

/-- `n` executed micro-instructions. -/
def blitterRun : Nat → State → State
  | 0, s => s
  | n + 1, s => blitterRun n (blitterOne s)

/-- `K`, the body length of a shape (the table of rule R321). -/
def bodyLength (shape : BitVec 4) : Nat := [2, 3, 2, 2, 2, 3, 3, 4, 1, 2, 2, 3, 2, 3, 3, 4].getD shape.toNat 0

/-- The tail length of a shape (the table of rule R321). -/
def tailLength (shape : BitVec 4) : Nat := [1, 2, 1, 2, 1, 2, 1, 2, 1, 2, 1, 2, 1, 2, 1, 2].getD shape.toNat 0

/-! ### Storage -/

/-- The regions that store words (rules R105, R113). -/
def isRam (s : State) (r : Region) : Prop :=
  r = .chip ∨ r = .slow ∨ r = .fast ∨ (r = .wom ∧ s.mem.womLocked = false)

/-! ### Delayed writes -/

/-- One delayed write is queued and due. -/
def OneWriteDue (off : Nat) (v : Word) (s : State) : Prop :=
  s.pending = [{ due := s.now, off := off, value := v }] ∧
  s.events.slots[slotReg] = { trigger := s.now, id := .regWrite, data := 0 }

/-- The queue emptied and its event cancelled. -/
def writesDone (s : State) : State :=
  { s with pending := [], events := s.events.put slotReg { trigger := neverTrigger, id := .none, data := 0 } }

/-- An entry of a register-change log at the coordinate of the current slot (rule R384). -/
def entryNow (off : Nat) (v : Word) (s : State) : LogEntry :=
  { trigger := 4 * (s.beam.h.toNat : Int), addr := off, value := v }

/-! ### Quiet slots -/

/-- No event is due before the coming slot's arbitration: no delayed write and none of a CIA. -/
abbrev NoEarlyEvent (s : State) : Prop := ∀ i ∈ earlySlots, eventDue i s = false

/-- Nothing outside the programmable agents happens in the coming slot before them: powered, no input, no early
event, no CPU access. -/
def Quiet (s : State) : Prop :=
  s.powered = true ∧ s.ext.inputs = [] ∧ NoEarlyEvent s ∧ s.cpu.queue = [] ∧ s.bus.reqCPU = false

/-! ### Families of rows -/

/-- Class `R` (rule R464). -/
def readOnlyRows : List (Nat × (RegOp → Instr)) :=
  [(0x002, .readDmaconr), (0x004, .readVposr), (0x006, .readVhposr), (0x00E, .readClxdat),
   (0x01C, .readIntenar), (0x01E, .readIntreqr)]

/-- Class `R,C` (rule R463). -/
def collaboratorReadRows : List (Nat × (RegOp → Instr)) :=
  [(0x00A, .readJoy0dat), (0x00C, .readJoy1dat), (0x010, .readAdkconr), (0x012, .readPot0dat),
   (0x014, .readPot1dat), (0x016, .readPotgor), (0x018, .readSerdatr), (0x01A, .readDskbytr)]

/-- Classes `W,C` and `ER,C` (rule R463). -/
def collaboratorWriteRows : List (Nat × (RegOp → Instr)) :=
  [(0x008, .writeDskdatr), (0x024, .writeDsklen), (0x026, .writeDskdat), (0x030, .writeSerdat),
   (0x032, .writeSerper), (0x034, .writePotgo), (0x036, .writeJoytest), (0x07E, .writeDsksync),
   (0x09E, .writeAdkcon), (0x0A0, .writeAud0lch), (0x0A2, .writeAud0lcl), (0x0A4, .writeAud0len),
   (0x0A6, .writeAud0per), (0x0A8, .writeAud0vol), (0x0AA, .writeAud0dat), (0x0B0, .writeAud1lch),
   (0x0B2, .writeAud1lcl), (0x0B4, .writeAud1len), (0x0B6, .writeAud1per), (0x0B8, .writeAud1vol),
   (0x0BA, .writeAud1dat), (0x0C0, .writeAud2lch), (0x0C2, .writeAud2lcl), (0x0C4, .writeAud2len),
   (0x0C6, .writeAud2per), (0x0C8, .writeAud2vol), (0x0CA, .writeAud2dat), (0x0D0, .writeAud3lch),
   (0x0D2, .writeAud3lcl), (0x0D4, .writeAud3len), (0x0D6, .writeAud3per), (0x0D8, .writeAud3vol),
   (0x0DA, .writeAud3dat)]

/-- The disk pointer, stored by the collaborator (rule R67). -/
def diskPointerRows : List (Nat × (RegOp → Instr)) :=
  [(0x020, .writeDskpth), (0x022, .writeDskptl)]

/-- Registers whose write is ignored (rules R496, R477, R480). -/
def ignoredRows : List (Nat × (RegOp → Instr)) :=
  [(0x000, .writeBltddat), (0x028, .writeRefptr), (0x02C, .writeVhposw), (0x08C, .writeCopins)]

/-- The Denise strobes (rule R490). -/
def strobeRows : List (Nat × (RegOp → Instr)) :=
  [(0x038, .writeStrequ), (0x03A, .writeStrvbl), (0x03C, .writeStrhor), (0x03E, .writeStrlong)]

/-- The delayed registers that are no sprite and no colour register (rule R466). -/
def displayRows : List (Nat × (RegOp → Instr)) :=
  [(0x08E, .writeDiwstrt), (0x090, .writeDiwstop), (0x098, .writeClxcon), (0x100, .writeBplcon0),
   (0x102, .writeBplcon1), (0x104, .writeBplcon2), (0x110, .writeBpl1dat), (0x112, .writeBpl2dat),
   (0x114, .writeBpl3dat), (0x116, .writeBpl4dat), (0x118, .writeBpl5dat), (0x11A, .writeBpl6dat)]

/-- The sprite registers `SPRnPOS/CTL/DATA/DATB` (rule R466). -/
def spriteRows : List (Nat × (RegOp → Instr)) :=
  [(0x140, .writeSpr0pos), (0x142, .writeSpr0ctl), (0x144, .writeSpr0data), (0x146, .writeSpr0datb),
   (0x148, .writeSpr1pos), (0x14A, .writeSpr1ctl), (0x14C, .writeSpr1data), (0x14E, .writeSpr1datb),
   (0x150, .writeSpr2pos), (0x152, .writeSpr2ctl), (0x154, .writeSpr2data), (0x156, .writeSpr2datb),
   (0x158, .writeSpr3pos), (0x15A, .writeSpr3ctl), (0x15C, .writeSpr3data), (0x15E, .writeSpr3datb),
   (0x160, .writeSpr4pos), (0x162, .writeSpr4ctl), (0x164, .writeSpr4data), (0x166, .writeSpr4datb),
   (0x168, .writeSpr5pos), (0x16A, .writeSpr5ctl), (0x16C, .writeSpr5data), (0x16E, .writeSpr5datb),
   (0x170, .writeSpr6pos), (0x172, .writeSpr6ctl), (0x174, .writeSpr6data), (0x176, .writeSpr6datb),
   (0x178, .writeSpr7pos), (0x17A, .writeSpr7ctl), (0x17C, .writeSpr7data), (0x17E, .writeSpr7datb)]

/-- The colour registers (rule R466). -/
def colourRows : List (Nat × (RegOp → Instr)) :=
  [(0x180, .writeColor00), (0x182, .writeColor01), (0x184, .writeColor02), (0x186, .writeColor03),
   (0x188, .writeColor04), (0x18A, .writeColor05), (0x18C, .writeColor06), (0x18E, .writeColor07),
   (0x190, .writeColor08), (0x192, .writeColor09), (0x194, .writeColor10), (0x196, .writeColor11),
   (0x198, .writeColor12), (0x19A, .writeColor13), (0x19C, .writeColor14), (0x19E, .writeColor15),
   (0x1A0, .writeColor16), (0x1A2, .writeColor17), (0x1A4, .writeColor18), (0x1A6, .writeColor19),
   (0x1A8, .writeColor20), (0x1AA, .writeColor21), (0x1AC, .writeColor22), (0x1AE, .writeColor23),
   (0x1B0, .writeColor24), (0x1B2, .writeColor25), (0x1B4, .writeColor26), (0x1B6, .writeColor27),
   (0x1B8, .writeColor28), (0x1BA, .writeColor29), (0x1BC, .writeColor30), (0x1BE, .writeColor31)]

/-- The core's write-only, strobe and DMA-only registers, the Denise strobes apart (rule R122). -/
def writeOnlyRows : List (Nat × (RegOp → Instr)) :=
  [(0x000, .writeBltddat), (0x020, .writeDskpth), (0x022, .writeDskptl), (0x028, .writeRefptr),
   (0x02A, .writeVposw), (0x02C, .writeVhposw), (0x02E, .writeCopcon), (0x040, .writeBltcon0),
   (0x042, .writeBltcon1), (0x044, .writeBltafwm), (0x046, .writeBltalwm), (0x048, .writeBltcpth),
   (0x04A, .writeBltcptl), (0x04C, .writeBltbpth), (0x04E, .writeBltbptl), (0x050, .writeBltapth),
   (0x052, .writeBltaptl), (0x054, .writeBltdpth), (0x056, .writeBltdptl), (0x058, .writeBltsize),
   (0x060, .writeBltcmod), (0x062, .writeBltbmod), (0x064, .writeBltamod), (0x066, .writeBltdmod),
   (0x070, .writeBltcdat), (0x072, .writeBltbdat), (0x074, .writeBltadat), (0x080, .writeCop1lch),
   (0x082, .writeCop1lcl), (0x084, .writeCop2lch), (0x086, .writeCop2lcl), (0x088, .writeCopjmp1),
   (0x08A, .writeCopjmp2), (0x08C, .writeCopins), (0x08E, .writeDiwstrt), (0x090, .writeDiwstop),
   (0x092, .writeDdfstrt), (0x094, .writeDdfstop), (0x096, .writeDmacon), (0x098, .writeClxcon),
   (0x09A, .writeIntena), (0x09C, .writeIntreq), (0x0E0, .writeBpl1pth), (0x0E2, .writeBpl1ptl),
   (0x0E4, .writeBpl2pth), (0x0E6, .writeBpl2ptl), (0x0E8, .writeBpl3pth), (0x0EA, .writeBpl3ptl),
   (0x0EC, .writeBpl4pth), (0x0EE, .writeBpl4ptl), (0x0F0, .writeBpl5pth), (0x0F2, .writeBpl5ptl),
   (0x0F4, .writeBpl6pth), (0x0F6, .writeBpl6ptl), (0x100, .writeBplcon0), (0x102, .writeBplcon1),
   (0x104, .writeBplcon2), (0x108, .writeBpl1mod), (0x10A, .writeBpl2mod), (0x110, .writeBpl1dat),
   (0x112, .writeBpl2dat), (0x114, .writeBpl3dat), (0x116, .writeBpl4dat), (0x118, .writeBpl5dat),
   (0x11A, .writeBpl6dat), (0x120, .writeSpr0pth), (0x122, .writeSpr0ptl), (0x124, .writeSpr1pth),
   (0x126, .writeSpr1ptl), (0x128, .writeSpr2pth), (0x12A, .writeSpr2ptl), (0x12C, .writeSpr3pth),
   (0x12E, .writeSpr3ptl), (0x130, .writeSpr4pth), (0x132, .writeSpr4ptl), (0x134, .writeSpr5pth),
   (0x136, .writeSpr5ptl), (0x138, .writeSpr6pth), (0x13A, .writeSpr6ptl), (0x13C, .writeSpr7pth),
   (0x13E, .writeSpr7ptl), (0x140, .writeSpr0pos), (0x142, .writeSpr0ctl), (0x144, .writeSpr0data),
   (0x146, .writeSpr0datb), (0x148, .writeSpr1pos), (0x14A, .writeSpr1ctl), (0x14C, .writeSpr1data),
   (0x14E, .writeSpr1datb), (0x150, .writeSpr2pos), (0x152, .writeSpr2ctl), (0x154, .writeSpr2data),
   (0x156, .writeSpr2datb), (0x158, .writeSpr3pos), (0x15A, .writeSpr3ctl), (0x15C, .writeSpr3data),
   (0x15E, .writeSpr3datb), (0x160, .writeSpr4pos), (0x162, .writeSpr4ctl), (0x164, .writeSpr4data),
   (0x166, .writeSpr4datb), (0x168, .writeSpr5pos), (0x16A, .writeSpr5ctl), (0x16C, .writeSpr5data),
   (0x16E, .writeSpr5datb), (0x170, .writeSpr6pos), (0x172, .writeSpr6ctl), (0x174, .writeSpr6data),
   (0x176, .writeSpr6datb), (0x178, .writeSpr7pos), (0x17A, .writeSpr7ctl), (0x17C, .writeSpr7data),
   (0x17E, .writeSpr7datb), (0x180, .writeColor00), (0x182, .writeColor01), (0x184, .writeColor02),
   (0x186, .writeColor03), (0x188, .writeColor04), (0x18A, .writeColor05), (0x18C, .writeColor06),
   (0x18E, .writeColor07), (0x190, .writeColor08), (0x192, .writeColor09), (0x194, .writeColor10),
   (0x196, .writeColor11), (0x198, .writeColor12), (0x19A, .writeColor13), (0x19C, .writeColor14),
   (0x19E, .writeColor15), (0x1A0, .writeColor16), (0x1A2, .writeColor17), (0x1A4, .writeColor18),
   (0x1A6, .writeColor19), (0x1A8, .writeColor20), (0x1AA, .writeColor21), (0x1AC, .writeColor22),
   (0x1AE, .writeColor23), (0x1B0, .writeColor24), (0x1B2, .writeColor25), (0x1B4, .writeColor26),
   (0x1B6, .writeColor27), (0x1B8, .writeColor28), (0x1BA, .writeColor29), (0x1BC, .writeColor30),
   (0x1BE, .writeColor31)]

/-- Rows 0 to 15 of the micro-program rows of spec/opcode_table.json, with their words (rule R321). -/
def programTable0 : List (Instr × List Word) :=
  [(.bltprogFFilloffAccurate, [0x008, 0x010, 0x020, 0x9C4, 0x001, 0x404]),
   (.bltprogFFilloffFast, [0x002, 0x002, 0x002, 0x802, 0x001, 0x402]),
   (.bltprogFFillonAccurate, [0x008, 0x010, 0x020, 0xBC4, 0x001, 0x404]),
   (.bltprogFFillonFast, [0x002, 0x002, 0x002, 0x802, 0x001, 0x402]),
   (.bltprogEFilloffAccurate, [0x008, 0x010, 0x9E0, 0x400]),
   (.bltprogEFilloffFast, [0x002, 0x002, 0x802, 0x400]),
   (.bltprogEFillonAccurate, [0x008, 0x010, 0xBE0, 0x400]),
   (.bltprogEFillonFast, [0x002, 0x002, 0x802, 0x400]),
   (.bltprogDFilloffAccurate, [0x008, 0x010, 0x9C4, 0x001, 0x404]),
   (.bltprogDFilloffFast, [0x002, 0x002, 0x802, 0x001, 0x402]),
   (.bltprogDFillonAccurate, [0x008, 0x010, 0xBC4, 0x001, 0x404]),
   (.bltprogDFillonFast, [0x002, 0x002, 0x802, 0x001, 0x402]),
   (.bltprogCFilloffAccurate, [0x008, 0x9D0, 0x400]),
   (.bltprogCFilloffFast, [0x002, 0x802, 0x400]),
   (.bltprogCFillonAccurate, [0x008, 0xBD0, 0x400]),
   (.bltprogCFillonFast, [0x002, 0x802, 0x400])]

/-- Rows 16 to 31 of the micro-program rows of spec/opcode_table.json, with their words (rule R321). -/
def programTable1 : List (Instr × List Word) :=
  [(.bltprogBFilloffAccurate, [0x008, 0x020, 0x9C4, 0x001, 0x404]),
   (.bltprogBFilloffFast, [0x002, 0x002, 0x802, 0x001, 0x402]),
   (.bltprogBFillonAccurate, [0x008, 0x020, 0xBC4, 0x001, 0x404]),
   (.bltprogBFillonFast, [0x002, 0x002, 0x802, 0x001, 0x402]),
   (.bltprogAFilloffAccurate, [0x008, 0x9E0, 0x400]),
   (.bltprogAFilloffFast, [0x002, 0x802, 0x400]),
   (.bltprogAFillonAccurate, [0x008, 0xBE0, 0x400]),
   (.bltprogAFillonFast, [0x002, 0x802, 0x400]),
   (.bltprog9FilloffAccurate, [0x008, 0x9C4, 0x001, 0x404]),
   (.bltprog9FilloffFast, [0x002, 0x802, 0x001, 0x402]),
   (.bltprog9FillonAccurate, [0x008, 0xBC4, 0x001, 0x404]),
   (.bltprog9FillonFast, [0x002, 0x802, 0x001, 0x402]),
   (.bltprog8FilloffAccurate, [0x9C8, 0x400]),
   (.bltprog8FilloffFast, [0x802, 0x400]),
   (.bltprog8FillonAccurate, [0xBC8, 0x400]),
   (.bltprog8FillonFast, [0x802, 0x400])]

/-- Rows 32 to 47 of the micro-program rows of spec/opcode_table.json, with their words (rule R321). -/
def programTable2 : List (Instr × List Word) :=
  [(.bltprog7FilloffAccurate, [0x010, 0x020, 0x001, 0x9C4, 0x001, 0x404]),
   (.bltprog7FilloffFast, [0x002, 0x002, 0x001, 0x802, 0x001, 0x402]),
   (.bltprog7FillonAccurate, [0x010, 0x020, 0x001, 0xBC4, 0x001, 0x404]),
   (.bltprog7FillonFast, [0x002, 0x002, 0x001, 0x802, 0x001, 0x402]),
   (.bltprog6FilloffAccurate, [0x010, 0x020, 0x9C1, 0x400]),
   (.bltprog6FilloffFast, [0x002, 0x002, 0x801, 0x400]),
   (.bltprog6FillonAccurate, [0x010, 0x020, 0xBC1, 0x400]),
   (.bltprog6FillonFast, [0x002, 0x002, 0x801, 0x400]),
   (.bltprog5FilloffAccurate, [0x010, 0x001, 0x9C4, 0x001, 0x404]),
   (.bltprog5FilloffFast, [0x002, 0x001, 0x802, 0x001, 0x402]),
   (.bltprog5FillonAccurate, [0x010, 0x001, 0xBC4, 0x001, 0x404]),
   (.bltprog5FillonFast, [0x002, 0x001, 0x802, 0x001, 0x402]),
   (.bltprog4FilloffAccurate, [0x010, 0x9C1, 0x400]),
   (.bltprog4FilloffFast, [0x002, 0x801, 0x400]),
   (.bltprog4FillonAccurate, [0x010, 0xBC1, 0x400]),
   (.bltprog4FillonFast, [0x002, 0x801, 0x400])]

/-- Rows 48 to 63 of the micro-program rows of spec/opcode_table.json, with their words (rule R321). -/
def programTable3 : List (Instr × List Word) :=
  [(.bltprog3FilloffAccurate, [0x020, 0x9C4, 0x001, 0x404]),
   (.bltprog3FilloffFast, [0x002, 0x802, 0x001, 0x402]),
   (.bltprog3FillonAccurate, [0x020, 0xBC4, 0x001, 0x404]),
   (.bltprog3FillonFast, [0x002, 0x802, 0x001, 0x402]),
   (.bltprog2FilloffAccurate, [0x020, 0x9C1, 0x400]),
   (.bltprog2FilloffFast, [0x002, 0x801, 0x400]),
   (.bltprog2FillonAccurate, [0x020, 0xBC1, 0x400]),
   (.bltprog2FillonFast, [0x002, 0x801, 0x400]),
   (.bltprog1FilloffAccurate, [0x004, 0x001, 0x9C1, 0x001, 0x404]),
   (.bltprog1FilloffFast, [0x002, 0x001, 0x801, 0x001, 0x402]),
   (.bltprog1FillonAccurate, [0x004, 0x001, 0xBC1, 0x001, 0x404]),
   (.bltprog1FillonFast, [0x002, 0x001, 0x801, 0x001, 0x402]),
   (.bltprog0FilloffAccurate, [0x001, 0x9C1, 0x400]),
   (.bltprog0FilloffFast, [0x001, 0x801, 0x400]),
   (.bltprog0FillonAccurate, [0x001, 0xBC1, 0x400]),
   (.bltprog0FillonFast, [0x001, 0x801, 0x400])]

/-- The micro-program rows of spec/opcode_table.json with their words (rule R321). -/
def programTable : List (Instr × List Word) :=
  programTable0 ++ programTable1 ++ programTable2 ++ programTable3

/-- `COLOR00..COLOR31`. -/
def colourOps : Vector (RegOp → Instr) 32 :=
  #v[.writeColor00, .writeColor01, .writeColor02, .writeColor03, .writeColor04,
     .writeColor05, .writeColor06, .writeColor07, .writeColor08, .writeColor09,
     .writeColor10, .writeColor11, .writeColor12, .writeColor13, .writeColor14,
     .writeColor15, .writeColor16, .writeColor17, .writeColor18, .writeColor19,
     .writeColor20, .writeColor21, .writeColor22, .writeColor23, .writeColor24,
     .writeColor25, .writeColor26, .writeColor27, .writeColor28, .writeColor29,
     .writeColor30, .writeColor31]

/-- The sprite registers at `$140 + 8n`. -/
def spritePosOps : Vector (RegOp → Instr) 8 :=
  #v[.writeSpr0pos, .writeSpr1pos, .writeSpr2pos, .writeSpr3pos, .writeSpr4pos,
     .writeSpr5pos, .writeSpr6pos, .writeSpr7pos]

/-- The sprite registers at `$142 + 8n`. -/
def spriteCtlOps : Vector (RegOp → Instr) 8 :=
  #v[.writeSpr0ctl, .writeSpr1ctl, .writeSpr2ctl, .writeSpr3ctl, .writeSpr4ctl,
     .writeSpr5ctl, .writeSpr6ctl, .writeSpr7ctl]

/-- The sprite registers at `$144 + 8n`. -/
def spriteDataOps : Vector (RegOp → Instr) 8 :=
  #v[.writeSpr0data, .writeSpr1data, .writeSpr2data, .writeSpr3data, .writeSpr4data,
     .writeSpr5data, .writeSpr6data, .writeSpr7data]

/-- The sprite registers at `$146 + 8n`. -/
def spriteDatbOps : Vector (RegOp → Instr) 8 :=
  #v[.writeSpr0datb, .writeSpr1datb, .writeSpr2datb, .writeSpr3datb, .writeSpr4datb,
     .writeSpr5datb, .writeSpr6datb, .writeSpr7datb]

/-- `SPRnPTH`. -/
def spritePthOps : Vector (RegOp → Instr) 8 :=
  #v[.writeSpr0pth, .writeSpr1pth, .writeSpr2pth, .writeSpr3pth, .writeSpr4pth,
     .writeSpr5pth, .writeSpr6pth, .writeSpr7pth]

/-- `SPRnPTL`. -/
def spritePtlOps : Vector (RegOp → Instr) 8 :=
  #v[.writeSpr0ptl, .writeSpr1ptl, .writeSpr2ptl, .writeSpr3ptl, .writeSpr4ptl,
     .writeSpr5ptl, .writeSpr6ptl, .writeSpr7ptl]

/-- `BPLpPTH`. -/
def bplPthOps : Vector (RegOp → Instr) 6 :=
  #v[.writeBpl1pth, .writeBpl2pth, .writeBpl3pth, .writeBpl4pth, .writeBpl5pth,
     .writeBpl6pth]

/-- `BPLpPTL`. -/
def bplPtlOps : Vector (RegOp → Instr) 6 :=
  #v[.writeBpl1ptl, .writeBpl2ptl, .writeBpl3ptl, .writeBpl4ptl, .writeBpl5ptl,
     .writeBpl6ptl]

/-- `BPLpDAT`. -/
def bplDatOps : Vector (RegOp → Instr) 6 :=
  #v[.writeBpl1dat, .writeBpl2dat, .writeBpl3dat, .writeBpl4dat, .writeBpl5dat,
     .writeBpl6dat]

end Sys2Proof.Machine
end

