-- ==== Sys2Proof/Certificates/Slice0/Obligations.lean ====
section
/-! DEFINITION. The statements about the machine, for the provers. -/

open Sys2Proof Sys2Proof.Machine

/-! ### Encodings -/

/-- Words written out from the encodings of spec/30_encoding.md decode to the instructions they stand for (the
form of a micro-instruction term is the model's: log entry 3). -/
def Obligations.WordsDecode : Prop :=
  decode (.copper 0x6401#16 0xFFFE#16) = .ok (.copperWait 100#8 0#7 true 127#7 127#7) ∧
  decode (.copper 0x0100#16 0x0200#16) = .ok (.copperMove 0x80#8 0x0200#16) ∧
  decode (.copper 0x9601#16 0xFFFF#16) = .ok (.copperSkip 150#8 0#7 true 127#7 127#7) ∧
  decode (.copper 0xFFFF#16 0xFFFE#16) = .ok (.copperWait 255#8 127#7 true 127#7 127#7) ∧
  decode (.micro 0x09C4#16) = .ok (.uopWriteD 0x09C0#16) ∧
  decode (.micro 0x0404#16) = .ok (.uopWriteD 0x0400#16) ∧
  decode (.micro 0x0001#16) = .ok (.uopBusidle 0#16) ∧
  decode (.micro 0x0000#16) = .ok .uopNothing ∧
  decode (.register 0x180#9 (.write 0x0F00#16)) = .ok (.writeColor00 (.write 0x0F00#16)) ∧
  decode (.register 0x002#9 .read) = .ok (.readDmaconr .read) ∧
  decode (.register 0x1FE#9 .read) = .ok (.accessUnimplementedOffset 0x1FE#9 .read) ∧
  decode (.program 15#4 false false) = .ok .bltprogFFilloffAccurate

/-- Every well-formed instruction, written as the bytes of its encoding, is read back from them, with every
operand, whatever bytes follow (the byte of a program selector is the model's: log entry 4). -/
def Obligations.BytesRoundTrip : Prop :=
  ∀ (i : Instr) (rest : List Byte), wellFormed i = true →
    decodeBytes (bytesOfCode (encode i)).1 ((bytesOfCode (encode i)).2 ++ rest) = .ok (i, rest)

/-- Whatever the decoder reads from bytes is a well-formed instruction. -/
def Obligations.DecodedIsWellFormed : Prop :=
  ∀ (sp : Space) (bytes rest : List Byte) (i : Instr), decodeBytes sp bytes = .ok (i, rest) → wellFormed i = true

/-- A micro-instruction word that breaks rule R158 is refused, and every other word is accepted: two actions of
the bus class, `FILL` without `HOLD_D`, or a bit of 15:12. -/
def Obligations.MicroWordsRefused : Prop :=
  ∀ w : Word,
    ((∃ i j : Nat, i < j ∧ j < 6 ∧ w.getLsbD i = true ∧ w.getLsbD j = true) ∨
      (w.getLsbD 9 = true ∧ w.getLsbD 8 = false) ∨ 0x1000 ≤ w.toNat) ↔
    decode (.micro w) = .error (.illFormedMicroWord w)

/-! ### A step runs the decoded instruction -/

/-- In a Copper slot with the Copper in EXECUTE and nothing from outside, the step runs the instruction that
`IR1` and `IR2` decode to, after the slot owner's transfer (which leaves the Copper alone), then the events after
COPPER's in index order and the end of the slot. -/
def Obligations.StepRunsCopperInstruction : Prop :=
  ∀ (s t : State) (i : Instr), Quiet s → s.copper.st = .execute → copperSlot s = true →
    decode (.copper s.copper.ir1 s.copper.ir2) = .ok i → reqBlitter (windowTick s) = false → t = windowTick s →
    step s =
      andThen (ownerTransfer (ownerOf t) (arbitrate t)) (fun u =>
        andThen (exec i (cancel slotCopper u)) (fun v =>
          andThen (serveEvents (ownerOf t) [4, 5, 6, 7, 8, 9, 10, 11, 12] v) (fun w => .next (finishSlot w))))

/-- The micro-instruction that the word at `bltpc` decodes to, in a slot with nothing due before arbitration and with
the CPU waiting for the bus or idle.  Granted the slot, the step makes the word's transfer, then the Copper's step,
then the word's other actions, `BLTDONE` among them (rules R132, R159, R318); where the Copper has nothing to do,
that is the micro-instruction run whole.  A word that needs no bus is run in every Blitter slot, whoever owns it
(rule R322), the CPU too (vector V-ARB-12), one with `BUSIDLE` where the bus is free (rule R323): after the owner's
transfer and the Copper's step.  The later events of the slot follow in index order.  That a `BLTSIZE` write of the
Copper or the CPU earlier in the slot drops the word, or the rest of it (the `eventDue` test), is the model's reading
of rules R301 and R302 (log entry 19). -/
def Obligations.StepRunsMicroInstruction : Prop :=
  ∀ (s t : State) (w : Word) (i : Instr), s.powered = true → s.ext.inputs = [] → NoEarlyEvent s →
    (s.bus.reqCPU = true ∨ s.cpu.queue = []) → t = windowTick s →
    blitterInst t.blitter = some w → decode (.micro w) = .ok i →
    let o := ownerOf t
    let later : State → Result := fun u =>
      andThen (serveEvents o [5, 6, 7, 8, 9, 10, 11, 12] u) (fun x => .next (finishSlot x))
    let copperIdle := copperSlot t = false ∧ eventDue slotCopper t = false
    let internal := t.blitter.busy = true ∧ t.ctl.dmacon.getLsbD 9 = true ∧ t.ctl.dmacon.getLsbD 6 = true ∧
      (t.cfg.blitterSlots = .any ∨ t.beam.h.toNat % 2 = 0) ∧ w &&& 0x003E#16 = 0#16 ∧
      (w.getLsbD 0 = true → busIsFree t = true)
    (∀ u, exec i u = .next (microActions w (microTransfer w u))) ∧
    (o = .blitter →
      step s =
        andThen (serveEvent o slotCopper (microTransfer w (arbitrate t))) (fun u =>
          later (if eventDue slotBlitter u then microActions w (cancel slotBlitter u) else u))) ∧
    (o = .blitter → copperIdle → step s = andThen (exec i (cancel slotBlitter (arbitrate t))) later) ∧
    (internal →
      step s =
        andThen (ownerTransfer o (arbitrate t)) (fun u =>
          andThen (serveEvent o slotCopper u) (fun v =>
            andThen (if eventDue slotBlitter v then exec i (cancel slotBlitter v) else .next v) later))) ∧
    (internal → copperIdle → o ≠ .cpu →
      ∃ u, ownerTransfer o (arbitrate t) = .next u ∧ u.blitter = t.blitter ∧
        step s = andThen (exec i (cancel slotBlitter u)) later) ∧
    (internal → copperIdle → o = .cpu →
      ∀ u, cpuTransfer (arbitrate t) = .next u → eventDue slotBlitter u = true →
        step s = andThen (exec i (cancel slotBlitter u)) later)

/-- In a slot granted to the CPU, the step runs the register operation that the access decodes to, records the
word on the bus and ends the access. -/
def Obligations.StepRunsRegisterAccess : Prop :=
  ∀ (s t : State) (off : RegOff) (op : RegOp) (rest : List CpuAccess) (cost : Nat) (later : List CpuInstr)
    (i : Instr),
    s.powered = true → s.ext.inputs = [] → NoEarlyEvent s → s.bus.reqCPU = true →
    s.cpu.queue = { accesses := registerAccess off op :: rest, cost := cost } :: later → off.getLsbD 0 = false →
    s.mem.memSrc.getD 0xDF .unmapped = .custom → t = windowTick s → ownerOf t = .cpu →
    decode (.register off op) = .ok i →
    step s =
      andThen (exec i (arbitrate t)) (fun u =>
        andThen (serveEvents .cpu lateSlots (finishAccess (registerAccess off op) rest cost later
            (recordBus .cpu (match op with | .read => u.cpu.readData.setWidth 16 | .write v => v) u)))
          (fun x => .next (finishSlot x)))

/-! ### Invariants -/

/-- The state after reset meets the invariant. -/
def Obligations.ResetInvariant : Prop := Inv State.reset

/-- Every step keeps every memory in canonical form. -/
def Obligations.StepKeepsMemoryCanonical : Prop :=
  ∀ s t : State, MemoryCanonical s → step s = .next t → MemoryCanonical t

/-- Every step keeps the pushed level equal to the level of `INTREQ` and `INTENA`. -/
def Obligations.StepKeepsLevelPushed : Prop :=
  ∀ s t : State, LevelPushed s → step s = .next t → LevelPushed t

/-- Every step keeps the region table equal to the one rule R104 builds. -/
def Obligations.StepKeepsTableBuilt : Prop :=
  ∀ s t : State, TableBuilt s → step s = .next t → TableBuilt t

/-- Every step keeps every DMA pointer and modulo even. -/
def Obligations.StepKeepsPointersEven : Prop :=
  ∀ s t : State, PointersEven s → step s = .next t → PointersEven t

/-- Every step keeps at most one owner per slot of the line. -/
def Obligations.StepKeepsBusExclusive : Prop :=
  ∀ s t : State, BusExclusive s → step s = .next t → BusExclusive t

/-- With well-formed programs a step never refuses, keeps them well-formed, and faults only where the host's
power-on fails to allocate memory. -/
def Obligations.StepAlwaysAnswers : Prop :=
  ∀ s : State, ProgramsWellFormed s →
    (∃ t, step s = .next t ∧ ProgramsWellFormed t) ∨
    (step s = .fault .memoryAllocationFailure ∧ ∃ x ∈ s.ext.inputs, x.input = .powerOn false)

/-- A powered machine without inputs advances its clock by exactly 1 in every step, and keeps its configuration,
its overlay line and its WOM lock. -/
def Obligations.StepAdvancesClock : Prop :=
  ∀ s t : State, s.powered = true → s.ext.inputs = [] → step s = .next t →
    t.now = s.now + 1#64 ∧ t.cfg = s.cfg ∧ t.powered = true ∧ t.mem.ovl = s.mem.ovl ∧
      t.mem.womLocked = s.mem.womLocked

/-! ### Reset and lifecycle -/

/-- The reset values of rule R560, and of rule R561 the overlay line.  The elements that only the model has, and the
reset values it chose itself, are log entries 1, 2 and 7. -/
def Obligations.ResetValues : Prop :=
  State.reset.now = 0#64 ∧ State.reset.beam = { v := 0#9, h := 0#8, lof := true, frame := 0#64 } ∧
  State.reset.bus = { line := [], reqCPU := false, cpuWaitSlots := 0, cpuClock := 0#64 } ∧
  (∀ i : Fin 13, State.reset.events.slots[i].trigger = 0x7FFFFFFFFFFFFFFF#64 ∧
    State.reset.events.slots[i].id = .none ∧ State.reset.events.slots[i].data = 0#64) ∧
  State.reset.events.primaryTrigger = 0x7FFFFFFFFFFFFFFF#64 ∧
  State.reset.mem.ovl = true ∧ State.reset.mem.womLocked = false ∧ TableBuilt State.reset ∧
  State.reset.ctl.dmacon = 0#16 ∧ State.reset.ctl.intena = 0#16 ∧ State.reset.ctl.intreq = 0#16 ∧
  State.reset.ctl.ipl = 0#3 ∧
  State.reset.copper = { cdang := false, cop1lc := 0#32, cop2lc := 0#32, pc := 0#32, ir1 := 0#16, ir2 := 0#16,
                         st := .fetch1, skipNext := false } ∧
  (let b := State.reset.blitter
   b.bltcon0 = 0#16 ∧ b.bltcon1 = 0#16 ∧ b.bltafwm = 0#16 ∧ b.bltalwm = 0#16 ∧
   b.bltapt = 0#32 ∧ b.bltbpt = 0#32 ∧ b.bltcpt = 0#32 ∧ b.bltdpt = 0#32 ∧
   b.bltamod = 0#16 ∧ b.bltbmod = 0#16 ∧ b.bltcmod = 0#16 ∧ b.bltdmod = 0#16 ∧
   b.anew = 0#16 ∧ b.bnew = 0#16 ∧ b.aold = 0#16 ∧ b.bold = 0#16 ∧ b.chold = 0#16 ∧
   b.ahold = 0#16 ∧ b.bhold = 0#16 ∧ b.dhold = 0#16 ∧ b.x = 0 ∧ b.y = 0 ∧ b.w = 0 ∧ b.hgt = 0 ∧
   b.colA = 0 ∧ b.colB = 0 ∧ b.colC = 0 ∧ b.colD = 0 ∧ b.pc = 0 ∧ b.prog = none ∧
   b.lockD = false ∧ b.fillCarry = false ∧ b.busy = false ∧ b.zero = false ∧
   b.lineFirst = false ∧ b.oneDot = false) ∧
  (let p := State.reset.bpl
   p.bplcon0 = 0#16 ∧ p.bplcon1 = 0#16 ∧ p.bplcon2 = 0#16 ∧ p.bpl1mod = 0#16 ∧ p.bpl2mod = 0#16 ∧
   p.loadPending = false ∧
   ∀ i : Fin 6, p.bplpt[i] = 0#32 ∧ p.bpldat[i] = 0#16 ∧ p.shiftReg[i] = 0#16) ∧
  (let w := State.reset.window
   w.diwstrt = 0#16 ∧ w.diwstop = 0#16 ∧ w.ddfstrt = 0#16 ∧ w.ddfstop = 0#16 ∧ w.diwV = false ∧
   w.diwH = false ∧ w.ddfActive = false ∧ w.fetchUnitPos = 0#3) ∧
  (∀ n : Fin 8, let x := State.reset.sprites[n]
   x.pos = 0#16 ∧ x.ctl = 0#16 ∧ x.data = 0#16 ∧ x.datb = 0#16 ∧ x.armed = false ∧ x.attach = false ∧
   x.ssra = 0#16 ∧ x.ssrb = 0#16 ∧ x.active = false ∧ x.shiftCount = 0 ∧ x.ptr = 0#32 ∧ x.dma = .idle) ∧
  (∀ i : Fin 32, State.reset.denise.color[i] = 0#12) ∧
  State.reset.denise.clxcon = 0#16 ∧ State.reset.denise.clxdat = 0#15 ∧
  State.reset.denise.bplLog = [] ∧ State.reset.denise.colLog = [] ∧ State.reset.pending = [] ∧
  State.reset.records = { violations := 0, lastViolation := none, unimplemented := [] }

/-- At reset the overlay line is high and the pages `$00-$07` decode to ROM; moving the line rebuilds the table,
keeps every memory, and moving it back gives the state it had (rule R116). -/
def Obligations.Overlay : Prop :=
  ∀ s : State, s.powered = true →
    ((reset s).mem.ovl = true ∧ TableBuilt (reset s) ∧
      ∀ p : Nat, p < 8 → (reset s).mem.memSrc.getD p .unmapped = .rom) ∧
    (∀ l : Bool, applyInput (.overlay l) s =
      .next { s with mem := { s.mem with ovl := l, memSrc := buildMemSrc s.cfg l s.mem.womLocked } }) ∧
    (TableBuilt s → ∃ t, applyInput (.overlay (!s.mem.ovl)) s = .next t ∧
      applyInput (.overlay s.mem.ovl) t = .next s)

/-- Power-on without a ROM only sends `ROM_MISSING`; with one it gives the reset state of the configuration and
sends `POWER_ON`, then `MEM_LAYOUT`.  Reset keeps the memories, the WOM lock and the frame buffers, puts every
other element of the core at its reset value, and sends `RESET`.  That power-on clears memory and keeps the
interface is the model's choice (log entries 2, 7 and 16). -/
def Obligations.PowerOnAndReset : Prop :=
  ∀ s : State,
    (s.powered = false → s.cfg.rom = none → ∀ m, applyInput (.powerOn m) s =
      .next { s with ext := { s.ext with messages := s.ext.messages ++ [.romMissing] } }) ∧
    (s.powered = false → s.cfg.rom ≠ none → applyInput (.powerOn true) s =
      .next { State.cold s.cfg with
        ext := { s.ext with messages := s.ext.messages ++ [.powerOn, .memLayout] } }) ∧
    (s.powered = true → applyInput .reset s =
      .next { State.cold s.cfg with
        mem := { s.mem with ovl := true, memSrc := buildMemSrc s.cfg true s.mem.womLocked }
        frames := s.frames
        ext := { s.ext with messages := s.ext.messages ++ [.reset] } })

/-- A configuration is taken only while powered off and only when it is legal; otherwise `CONFIG` is sent and
nothing changes (the message and some limits are the model's choice: log entries 16 and 25). -/
def Obligations.Configure : Prop :=
  ∀ (s : State) (c : Cfg),
    (s.powered = false ∧ Cfg.valid c = true →
      applyInput (.configure c) s =
        .next { s with cfg := c, mem := { s.mem with memSrc := buildMemSrc c s.mem.ovl s.mem.womLocked } }) ∧
    (s.powered = true ∨ Cfg.valid c = false →
      applyInput (.configure c) s =
        .next { s with ext := { s.ext with messages := s.ext.messages ++ [.config] } })

/-! ### Interrupts and DMA control -/

/-- The interrupt level of rule R525, bit by bit. -/
def Obligations.InterruptLevel : Prop :=
  ∀ r e : Word,
    let act : Nat → Bool := fun i => e.getLsbD 14 && (r.getLsbD i && e.getLsbD i)
    interruptLevel r e =
      if act 13 then 6#3
      else if act 12 || act 11 then 5#3
      else if act 10 || act 9 || act 8 || act 7 then 4#3
      else if act 6 || act 5 || act 4 then 3#3
      else if act 3 then 2#3
      else if act 2 || act 1 || act 0 then 1#3
      else 0#3

/-- Raising an interrupt sets its bit and pushes the level; raising a bit already set changes nothing. -/
def Obligations.RaiseIrq : Prop :=
  ∀ (s : State) (bit : Nat), bit < 15 →
    (raiseIrq bit s).ctl.intreq.getLsbD bit = true ∧
    (∀ k, k ≠ bit → (raiseIrq bit s).ctl.intreq.getLsbD k = s.ctl.intreq.getLsbD k) ∧
    LevelPushed (raiseIrq bit s) ∧
    (LevelPushed s → s.ctl.intreq.getLsbD bit = true → raiseIrq bit s = s)

/-- `INTREQ`, `INTENA` and `DMACON` (whose bits 14 and 13 are not writable) are written by the set/clear convention
(rules R470-R473), and the level follows at once; nothing else changes. -/
def Obligations.SetClearRegisters : Prop :=
  ∀ (s : State) (v : Word),
    let sc : Word → Word → Word := fun r m => if v.getLsbD 15 then r ||| (v &&& m) else r &&& ~~~ (v &&& m)
    exec (.writeIntreq (.write v)) s =
      .next { s with ctl := { s.ctl with intreq := sc s.ctl.intreq 0x7FFF#16,
                                         ipl := interruptLevel (sc s.ctl.intreq 0x7FFF#16) s.ctl.intena } } ∧
    exec (.writeIntena (.write v)) s =
      .next { s with ctl := { s.ctl with intena := sc s.ctl.intena 0x7FFF#16,
                                         ipl := interruptLevel s.ctl.intreq (sc s.ctl.intena 0x7FFF#16) } } ∧
    exec (.writeDmacon (.write v)) s =
      .next { s with ctl := { s.ctl with dmacon := sc s.ctl.dmacon 0x07FF#16 } }

/-! ### Reads -/

/-- The readable status and beam registers answer their words and change nothing else. -/
def Obligations.StatusReads : Prop :=
  ∀ s : State,
    let answers : Instr → Word → Prop := fun i w =>
      exec i s = .next { s with cpu := { s.cpu with readData := w.setWidth 32 } }
    answers (.readDmaconr .read)
      (0#1 ++ BitVec.ofBool s.blitter.busy ++ BitVec.ofBool s.blitter.zero ++ 0#2
        ++ s.ctl.dmacon.extractLsb' 0 11 : BitVec 16) ∧
    answers (.readVposr .read) (BitVec.ofBool s.beam.lof ++ 0#14 ++ s.beam.v.extractLsb' 8 1 : BitVec 16) ∧
    answers (.readVhposr .read) (s.beam.v.extractLsb' 0 8 ++ s.beam.h : BitVec 16) ∧
    answers (.readIntenar .read) (s.ctl.intena &&& 0x7FFF#16) ∧
    answers (.readIntreqr .read) (s.ctl.intreq &&& 0x7FFF#16)

/-- Reading `CLXDAT` answers `$8000` with the collision bits and clears them. -/
def Obligations.ClxdatRead : Prop :=
  ∀ s : State, exec (.readClxdat .read) s =
    .next { s with cpu := { s.cpu with readData := (1#1 ++ s.denise.clxdat : BitVec 16).setWidth 32 }
                   denise := { s.denise with clxdat := 0#15 } }

/-- Writes to the read-only registers, and to `BLTDDAT`, `REFPTR`, `VHPOSW` and `COPINS`, change nothing. -/
def Obligations.IgnoredWrites : Prop :=
  ∀ r ∈ readOnlyRows ++ ignoredRows, ∀ (s : State) (v : Word), exec (r.2 (.write v)) s = .next s

/-- The bus value of rule R122: the word of the slot before, when a DMA agent owned it, else `$FFFF`. -/
def Obligations.BusValue : Prop :=
  ∀ s : State,
    (s.beam.h = 0#8 → busQuirk s = 0xFFFF#16) ∧
    (∀ e, s.beam.h ≠ 0#8 → BusExclusive s → e ∈ s.bus.line → e.slot = s.beam.h.toNat - 1 →
      busQuirk s = if e.owner = .cpu then 0xFFFF#16 else e.value) ∧
    ((∀ e ∈ s.bus.line, e.slot ≠ s.beam.h.toNat - 1) → busQuirk s = 0xFFFF#16)

/-- A read of a write-only, strobe or DMA-only register answers the bus value and writes it to the register,
with all the effects of that write. -/
def Obligations.ReadBackWrites : Prop :=
  ∀ r ∈ writeOnlyRows ++ collaboratorWriteRows, ∀ s : State,
    ∃ t, exec (r.2 (.write (busQuirk s))) s = .next t ∧
      exec (r.2 .read) s = .next { t with cpu := { t.cpu with readData := (busQuirk s).setWidth 32 } }

/-- The Denise strobes: a write is recorded and ignored, a read answers `$FFFF` and writes nothing. -/
def Obligations.StrobesIgnored : Prop :=
  ∀ r ∈ strobeRows, ∀ (s : State) (v : Word),
    exec (r.2 (.write v)) s =
      .next { s with records := { s.records with unimplemented := insertOffset s.records.unimplemented r.1 } } ∧
    exec (r.2 .read) s = .next { s with cpu := { s.cpu with readData := 0xFFFF#32 } }

/-- An access to an offset that names no register changes nothing but the record of such offsets; a read answers
the bus value. -/
def Obligations.UnimplementedAccess : Prop :=
  ∀ (off : RegOff) (s : State) (v : Word), unimplementedOffset off = true →
    exec (.accessUnimplementedOffset off (.write v)) s =
      .next { s with records :=
        { s.records with unimplemented := insertOffset s.records.unimplemented off.toNat } } ∧
    exec (.accessUnimplementedOffset off .read) s =
      .next { s with
        records := { s.records with unimplemented := insertOffset s.records.unimplemented off.toNat }
        cpu := { s.cpu with readData := (busQuirk s).setWidth 32 } }

/-- Collaborator registers: a write is handed on unchanged; a read of an `R,C` register answers the
collaborator's value.  That the disk pointer's halves are handed on too is the model's reading of 'stored by the
collaborators' in rule R67 (log entry 27); the model counts the reads (log entry 10). -/
def Obligations.CollaboratorRegisters : Prop :=
  (∀ r ∈ collaboratorWriteRows ++ collaboratorReadRows ++ diskPointerRows, ∀ (s : State) (v : Word),
    exec (r.2 (.write v)) s =
      .next { s with ext := { s.ext with forwards := s.ext.forwards ++ [.regWrite r.1 v] } }) ∧
  (∀ r ∈ collaboratorReadRows, ∀ s : State,
    exec (r.2 .read) s =
      .next { s with
        ext := { s.ext with forwards := s.ext.forwards ++ [.regRead r.1], draws := s.ext.draws + 1 }
        cpu := { s.cpu with readData := (Config.collaboratorRead s.ext.draws).setWidth 32 } })

/-! ### Direct writes -/

/-- The two halves of a DMA pointer, bit by bit (rule R161). -/
def Obligations.PointerHalves : Prop :=
  ∀ (c : Cfg) (v : Word) (p : Ptr) (i : Nat), 17 ≤ c.dmaAddrBits → c.dmaAddrBits ≤ 32 → i < 32 →
    (setPtrHigh c v p).getLsbD i =
      (if i < 16 then p.getLsbD i else decide (i < c.dmaAddrBits) && v.getLsbD (i - 16)) ∧
    (setPtrLow v p).getLsbD i =
      (if i = 0 then false else if i < 16 then v.getLsbD i else p.getLsbD i)

/-- The Copper's registers and strobes, and `VPOSW`; nothing else changes. -/
def Obligations.CopperRegisters : Prop :=
  ∀ (s : State) (v : Word),
    let gives : Instr → Copper → Prop := fun i k => exec i s = .next { s with copper := k }
    gives (.writeCopcon (.write v)) { s.copper with cdang := v.getLsbD 1 } ∧
    gives (.writeCop1lch (.write v)) { s.copper with cop1lc := setPtrHigh s.cfg v s.copper.cop1lc } ∧
    gives (.writeCop1lcl (.write v)) { s.copper with cop1lc := setPtrLow v s.copper.cop1lc } ∧
    gives (.writeCop2lch (.write v)) { s.copper with cop2lc := setPtrHigh s.cfg v s.copper.cop2lc } ∧
    gives (.writeCop2lcl (.write v)) { s.copper with cop2lc := setPtrLow v s.copper.cop2lc } ∧
    gives (.writeCopjmp1 (.write v)) { s.copper with pc := s.copper.cop1lc, st := .fetch1, skipNext := false } ∧
    gives (.writeCopjmp2 (.write v)) { s.copper with pc := s.copper.cop2lc, st := .fetch1, skipNext := false } ∧
    exec (.writeVposw (.write v)) s = .next { s with beam := { s.beam with lof := v.getLsbD 15 } }

/-- The Blitter's registers other than `BLTSIZE`; nothing else changes. -/
def Obligations.BlitterRegisters : Prop :=
  ∀ (s : State) (v : Word),
    let b := s.blitter
    let gives : Instr → Blitter → Prop := fun i k => exec i s = .next { s with blitter := k }
    gives (.writeBltcon0 (.write v)) { b with bltcon0 := v } ∧
    gives (.writeBltcon1 (.write v)) { b with bltcon1 := v } ∧
    gives (.writeBltafwm (.write v)) { b with bltafwm := v } ∧
    gives (.writeBltalwm (.write v)) { b with bltalwm := v } ∧
    gives (.writeBltcpth (.write v)) { b with bltcpt := setPtrHigh s.cfg v b.bltcpt } ∧
    gives (.writeBltcptl (.write v)) { b with bltcpt := setPtrLow v b.bltcpt } ∧
    gives (.writeBltbpth (.write v)) { b with bltbpt := setPtrHigh s.cfg v b.bltbpt } ∧
    gives (.writeBltbptl (.write v)) { b with bltbpt := setPtrLow v b.bltbpt } ∧
    gives (.writeBltapth (.write v)) { b with bltapt := setPtrHigh s.cfg v b.bltapt } ∧
    gives (.writeBltaptl (.write v)) { b with bltapt := setPtrLow v b.bltapt } ∧
    gives (.writeBltdpth (.write v)) { b with bltdpt := setPtrHigh s.cfg v b.bltdpt } ∧
    gives (.writeBltdptl (.write v)) { b with bltdpt := setPtrLow v b.bltdpt } ∧
    gives (.writeBltcmod (.write v)) { b with bltcmod := v &&& 0xFFFE#16 } ∧
    gives (.writeBltbmod (.write v)) { b with bltbmod := v &&& 0xFFFE#16 } ∧
    gives (.writeBltamod (.write v)) { b with bltamod := v &&& 0xFFFE#16 } ∧
    gives (.writeBltdmod (.write v)) { b with bltdmod := v &&& 0xFFFE#16 } ∧
    gives (.writeBltcdat (.write v)) { b with chold := v } ∧
    gives (.writeBltbdat (.write v)) { b with bnew := v } ∧
    gives (.writeBltadat (.write v)) { b with anew := v }

/-- The fetch window's registers, the bitplane modulos, and the bitplane and sprite pointers; nothing else
changes. -/
def Obligations.DisplayDmaRegisters : Prop :=
  ∀ (s : State) (v : Word),
    exec (.writeDdfstrt (.write v)) s =
      .next { s with window := { s.window with ddfstrt := v &&& 0x00FC#16 } } ∧
    exec (.writeDdfstop (.write v)) s =
      .next { s with window := { s.window with ddfstop := v &&& 0x00FC#16 } } ∧
    exec (.writeBpl1mod (.write v)) s = .next { s with bpl := { s.bpl with bpl1mod := v &&& 0xFFFE#16 } } ∧
    exec (.writeBpl2mod (.write v)) s = .next { s with bpl := { s.bpl with bpl2mod := v &&& 0xFFFE#16 } } ∧
    (∀ p : Fin 6,
      exec (bplPthOps[p] (.write v)) s =
        .next { s with bpl := { s.bpl with bplpt := s.bpl.bplpt.set p (setPtrHigh s.cfg v s.bpl.bplpt[p]) } } ∧
      exec (bplPtlOps[p] (.write v)) s =
        .next { s with bpl := { s.bpl with bplpt := s.bpl.bplpt.set p (setPtrLow v s.bpl.bplpt[p]) } }) ∧
    (∀ n : Fin 8,
      exec (spritePthOps[n] (.write v)) s =
        .next { s with sprites :=
          s.sprites.set n { s.sprites[n] with ptr := setPtrHigh s.cfg v s.sprites[n].ptr } } ∧
      exec (spritePtlOps[n] (.write v)) s =
        .next { s with sprites := s.sprites.set n { s.sprites[n] with ptr := setPtrLow v s.sprites[n].ptr } })

/-! ### Delayed writes -/

/-- A write to a register of the set DELAYED is queued for the next slot, whose `REG_WRITE` event holds the index
of the first write due there, and changes nothing else.  The index is the model's reading of rule R210 (log entry
19). -/
def Obligations.DelayedWritesQueue : Prop :=
  ∀ r ∈ displayRows ++ spriteRows ++ colourRows, ∀ (s : State) (v : Word),
    let q := s.pending ++ [{ due := s.now + 1#64, off := r.1, value := v }]
      ∃ index : Nat, index < q.length ∧ (q.map PendingWrite.due)[index]? = some (s.now + 1#64) ∧
        (∀ k, k < index → (q.map PendingWrite.due)[k]? ≠ some (s.now + 1#64)) ∧
        exec (r.2 (.write v)) s = .next { s with
          pending := q
          events := s.events.put slotReg
            { trigger := s.now + 1#64, id := .regWrite, data := BitVec.ofNat 64 index } }

/-- A queued colour write, when due, stores the masked value and logs it at the coordinate of the slot. -/
def Obligations.ColourWriteApplies : Prop :=
  ∀ (i : Fin 32) (v : Word) (s : State), OneWriteDue (0x180 + 2 * i.val) v s →
    serveEvent .none slotReg s = .next
      { writesDone s with denise := { s.denise with
          color := s.denise.color.set i (v.extractLsb' 0 12)
          colLog := s.denise.colLog ++ [entryNow (0x180 + 2 * i.val) (v &&& 0x0FFF#16) s] } }

/-- A queued write to `SPRnPOS`, `SPRnDATA` or `SPRnDATB`, when due: the register, the DMA start line or the arm
bit, and the log entry. -/
def Obligations.SpriteWriteApplies : Prop :=
  ∀ (n : Fin 8) (v : Word) (s : State),
    let done : Nat → Sprite → State := fun off x =>
      { writesDone s with
        sprites := s.sprites.set n x
        denise := { s.denise with bplLog := s.denise.bplLog ++ [entryNow off v s] } }
    let x := s.sprites[n]
    let gives : State → Prop := fun t => serveEvent .none slotReg s = .next t
    (OneWriteDue (0x140 + 8 * n.val) v s → gives (done (0x140 + 8 * n.val)
      { x with pos := v, vstart := (x.vstart.extractLsb' 8 1 ++ v.extractLsb' 8 8 : BitVec 9) })) ∧
    (OneWriteDue (0x144 + 8 * n.val) v s → gives (done (0x144 + 8 * n.val)
      { x with data := v, armed := true })) ∧
    (OneWriteDue (0x146 + 8 * n.val) v s → gives (done (0x146 + 8 * n.val)
      { x with datb := v }))

/-- A queued write to `SPRnCTL`, when due: the sprite disarmed, its DMA start and stop lines, the attach bit of
the pair from its odd sprite (read from rules R56 and R506: log entry 21), and the log entry; no other sprite
changes. -/
def Obligations.SpriteControlApplies : Prop :=
  ∀ (n : Fin 8) (v : Word) (s : State), OneWriteDue (0x142 + 8 * n.val) v s →
    ∃ t, serveEvent .none slotReg s = .next t ∧
    t.sprites[n] = { s.sprites[n] with
      ctl := v, armed := false
      vstart := (v.extractLsb' 2 1 ++ s.sprites[n].vstart.extractLsb' 0 8 : BitVec 9)
      vstop := (v.extractLsb' 1 1 ++ v.extractLsb' 8 8 : BitVec 9)
      attach := if n.val % 2 = 1 then v.getLsbD 7 else s.sprites[n].attach } ∧
    (∀ m : Fin 8, m ≠ n → t.sprites[m] =
      { s.sprites[m] with
        attach := if n.val % 2 = 1 ∧ m.val + 1 = n.val then v.getLsbD 7 else s.sprites[m].attach }) ∧
    t = { writesDone s with
      sprites := t.sprites
      denise := { s.denise with bplLog := s.denise.bplLog ++ [entryNow (0x142 + 8 * n.val) v s] } }

/-- A queued write to `BPLCON0`, `BPLCON1`, `BPLCON2`, `BPLpDAT`, `DIWSTRT`, `DIWSTOP` or `CLXCON`, when due. -/
def Obligations.DisplayWriteApplies : Prop :=
  ∀ (v : Word) (s : State),
    let logged : Nat → Bitplanes → State := fun off b =>
      { writesDone s with
        bpl := b, denise := { s.denise with bplLog := s.denise.bplLog ++ [entryNow off v s] } }
    let gives : State → Prop := fun t => serveEvent .none slotReg s = .next t
    (OneWriteDue 0x100 v s → gives (logged 0x100 { s.bpl with bplcon0 := v })) ∧
    (OneWriteDue 0x102 v s → gives (logged 0x102 { s.bpl with bplcon1 := v })) ∧
    (OneWriteDue 0x104 v s → gives (logged 0x104 { s.bpl with bplcon2 := v })) ∧
    (∀ p : Fin 6, OneWriteDue (0x110 + 2 * p.val) v s → gives
      { writesDone s with bpl := { s.bpl with
          bpldat := s.bpl.bpldat.set p v, loadPending := s.bpl.loadPending || decide (p = 0) } }) ∧
    (OneWriteDue 0x08E v s → gives
      { writesDone s with window := { s.window with diwstrt := v } }) ∧
    (OneWriteDue 0x090 v s → gives
      { writesDone s with window := { s.window with diwstop := v } }) ∧
    (OneWriteDue 0x098 v s → gives
      { writesDone s with denise := { s.denise with clxcon := v } })

/-! ### The Copper -/

/-- A MOVE to a protected offset writes nothing and halts the Copper; a MOVE to any other offset has the effect of
the register write, after which the Copper fetches (after a jump strobe, at the address that set). -/
def Obligations.CopperMove : Prop :=
  ∀ (s : State) (ra : BitVec 8) (data : Word),
    ((2 * ra.toNat < 0x40 ∨ (2 * ra.toNat < 0x80 ∧ s.copper.cdang = false)) →
      exec (.copperMove ra data) s = .next { s with copper := { s.copper with st := .halted } }) ∧
    (0x80 ≤ 2 * ra.toNat ∨ (0x40 ≤ 2 * ra.toNat ∧ s.copper.cdang = true) → s.copper.st = .execute →
      ∃ t, exec (decodeRegister (ra ++ 0#1 : BitVec 9) (.write data)) s = .next t ∧
        exec (.copperMove ra data) s = .next { t with copper := { t.copper with st := .fetch1 } })

/-- A WAIT whose position is reached, with the Blitter finished unless `BFD` is set, lets the Copper fetch; any
other parks it (rules R154, R274, R275). -/
def Obligations.WaitParks : Prop :=
  ∀ (s : State) (vp : BitVec 8) (hp : BitVec 7) (bfd : Bool) (ve he : BitVec 7),
    let mask : Nat := 0x4000 + ve.toNat * 0x80 + he.toNat
    let target : Nat := vp.toNat * 0x80 + hp.toNat
    let beam : Nat := (s.beam.v.toNat % 0x100) * 0x80 + s.beam.h.toNat / 2
    exec (.copperWait vp hp bfd ve he) s = .next { s with copper := { s.copper with
      st := if (target &&& mask ≤ beam &&& mask) ∧ (bfd = true ∨ s.blitter.busy = false) then .fetch1
            else .waiting } }

/-- A SKIP whose position is reached marks the next instruction to be skipped; the Copper fetches either way. -/
def Obligations.SkipMarks : Prop :=
  ∀ (s : State) (vp : BitVec 8) (hp : BitVec 7) (bfd : Bool) (ve he : BitVec 7),
    let mask : Nat := 0x4000 + ve.toNat * 0x80 + he.toNat
    let target : Nat := vp.toNat * 0x80 + hp.toNat
    let beam : Nat := (s.beam.v.toNat % 0x100) * 0x80 + s.beam.h.toNat / 2
    exec (.copperSkip vp hp bfd ve he) s = .next { s with copper := { s.copper with
      st := .fetch1
      skipNext := decide ((target &&& mask ≤ beam &&& mask) ∧ (bfd = true ∨ s.blitter.busy = false))
        || s.copper.skipNext } }

/-- The fetches of the Copper: the word at `COPPC`, the counter two further, the next state; the word is
recorded on the bus. -/
def Obligations.CopperFetches : Prop :=
  ∀ s : State,
    let w := chipRead16 s.copper.pc s
    let fetched : Copper → State := fun k =>
      { s with copper := k, bus := { s.bus with line := busLine s.bus.line s.beam.h.toNat .copper w } }
    (s.copper.st = .fetch1 → copperFetch s =
      fetched { s.copper with ir1 := w, pc := ptrAdd s.cfg s.copper.pc 2#32, st := .fetch2 }) ∧
    (s.copper.st = .fetch2 → copperFetch s =
      fetched { s.copper with
        ir2 := w, pc := ptrAdd s.cfg s.copper.pc 2#32
        st := if s.copper.skipNext = true then .skipped else .execute, skipNext := false })

/-! ### The Blitter -/

/-- The minterm, bit by bit (rule R306). -/
def Obligations.Minterm : Prop :=
  ∀ (a b c : Word) (lf : BitVec 8) (i : Nat), i < 16 →
    (minterm a b c lf).getLsbD i =
      lf.getLsbD (4 * (a.getLsbD i).toNat + 2 * (b.getLsbD i).toNat + (c.getLsbD i).toNat)

/-- The barrel shifter as arithmetic on the two words joined (rules R307, R308). -/
def Obligations.BarrelShift : Prop :=
  ∀ (new old : Word) (s : Nat), s < 16 →
    (barrelShift false new old s).toNat = (old.toNat * 0x10000 + new.toNat) / 2 ^ s % 0x10000 ∧
    (barrelShift true new old s).toNat = (new.toNat * 0x10000 + old.toNat) / 2 ^ (16 - s) % 0x10000

/-- The area fill, bit by bit: the carry at bit `i` is the carry in, turned over by every set bit below `i`
(rule R311). -/
def Obligations.AreaFill : Prop :=
  ∀ (con1 d : Word) (carry : Bool),
    let carryAt : Nat → Bool := fun i => (List.range i).foldl (fun c k => c ^^ d.getLsbD k) carry
    (∀ i, i < 16 → (fillWord con1 carry d).1.getLsbD i =
      if con1.getLsbD 4 then carryAt i ^^ d.getLsbD i else carryAt i || d.getLsbD i) ∧
    (fillWord con1 carry d).2 = carryAt 16

/-- The whole effect of every well-formed micro-instruction word, whatever its combination of actions: what it
transfers, what it puts on the bus, what it holds, where the counters go, and with `BLTDONE` the end of the
blit with its interrupt; every other part of the state is unchanged.  It runs to a next state in every state. -/
def Obligations.MicroWordEffect : Prop :=
  ∀ (w : Word) (i : Instr) (s : State), decode (.micro w) = .ok i →
    let b := s.blitter
    let incr : Ptr := if b.bltcon1.getLsbD 1 then 0xFFFFFFFE#32 else 2#32
    let next : Ptr → Word → Nat → Ptr × Nat := fun p m col =>
      if col - 1 = 0 then
        (ptrAdd s.cfg (ptrAdd s.cfg p incr)
          (if b.bltcon1.getLsbD 1 then - m.signExtend 32 else m.signExtend 32), b.w)
      else (ptrAdd s.cfg p incr, col - 1)
    let writes := w.getLsbD 2 && !b.lockD
    let anew := if w.getLsbD 3 then chipRead16 b.bltapt s else b.anew
    let bnew := if w.getLsbD 4 then chipRead16 b.bltbpt s else b.bnew
    let chold := if w.getLsbD 5 then chipRead16 b.bltcpt s else b.chold
    let am := anew &&& channelAMask b.bltafwm b.bltalwm b.x b.w
    let down := b.bltcon1.getLsbD 1
    let ahold := if w.getLsbD 6 then barrelShift down am b.aold (b.bltcon0.toNat / 0x1000) else b.ahold
    let bhold := if w.getLsbD 7 then barrelShift down bnew b.bold (b.bltcon1.toNat / 0x1000) else b.bhold
    let m := minterm ahold bhold chold (b.bltcon0.extractLsb' 0 8)
    let f := if w.getLsbD 9 then fillWord b.bltcon1 b.fillCarry m else (m, b.fillCarry)
    let rowEnds := w.getLsbD 11 && decide (b.x - 1 = 0)
    let y := if rowEnds then b.y - 1 else b.y
    let carry := if w.getLsbD 8 then f.2 else b.fillCarry
    let done := w.getLsbD 10
    let intreq := if done then s.ctl.intreq ||| 0x0040#16 else s.ctl.intreq
    let holdsBus := w.getLsbD 1 || w.getLsbD 2 || w.getLsbD 3 || w.getLsbD 4 || w.getLsbD 5
    let busWord := if w.getLsbD 3 then anew else if w.getLsbD 4 then bnew else if w.getLsbD 5 then chold
      else if writes then b.dhold else 0xFFFF#16
    exec i s = .next { s with
      mem := if writes then
          { s.mem with chip := s.mem.chip.setWord (chipOffset s.cfg b.bltdpt) b.dhold } else s.mem
      bus := if holdsBus then
          { s.bus with line := busLine s.bus.line s.beam.h.toNat .blitter busWord } else s.bus
      ctl := { s.ctl with
        intreq := intreq, ipl := if done then interruptLevel intreq s.ctl.intena else s.ctl.ipl }
      blitter := { b with
        anew := anew, bnew := bnew, chold := chold
        bltapt := if w.getLsbD 3 then (next b.bltapt b.bltamod b.colA).1 else b.bltapt
        colA := if w.getLsbD 3 then (next b.bltapt b.bltamod b.colA).2 else b.colA
        bltbpt := if w.getLsbD 4 then (next b.bltbpt b.bltbmod b.colB).1 else b.bltbpt
        colB := if w.getLsbD 4 then (next b.bltbpt b.bltbmod b.colB).2 else b.colB
        bltcpt := if w.getLsbD 5 then (next b.bltcpt b.bltcmod b.colC).1 else b.bltcpt
        colC := if w.getLsbD 5 then (next b.bltcpt b.bltcmod b.colC).2 else b.colC
        bltdpt := if writes then (next b.bltdpt b.bltdmod b.colD).1 else b.bltdpt
        colD := if writes then (next b.bltdpt b.bltdmod b.colD).2 else b.colD
        ahold := ahold, aold := if w.getLsbD 6 then am else b.aold
        bhold := bhold, bold := if w.getLsbD 7 then bnew else b.bold
        dhold := if w.getLsbD 8 then f.1 else b.dhold
        lockD := if w.getLsbD 8 then false else b.lockD
        zero := if w.getLsbD 8 && f.1 != 0#16 then false else b.zero
        x := if w.getLsbD 11 then (if rowEnds then b.w else b.x - 1) else b.x
        y := y
        fillCarry := if rowEnds then b.bltcon1.getLsbD 2 else carry
        busy := if done then false else b.busy
        prog := if done then none else b.prog
        pc := if done then 0 else if w.getLsbD 11 && y != 0 then 0 else b.pc + 1 } }

/-- Every micro-instruction constructor runs to a next state in every state, with any other action bits:
`NOTHING` only moves on, `BUSIDLE` and every other word end no blit without `BLTDONE`, and `BLTDONE` ends it. -/
def Obligations.MicroInstructionsRun : Prop :=
  ∀ (s : State) (rest : Word),
    exec .uopNothing s = .next { s with blitter := { s.blitter with pc := s.blitter.pc + 1 } } ∧
    (∃ t, exec (.uopBltdone rest) s = .next t ∧ t.blitter.busy = false ∧ t.blitter.prog = none ∧
      t.blitter.pc = 0 ∧ t.ctl.intreq = s.ctl.intreq ||| 0x0040#16 ∧
      t.ctl.ipl = interruptLevel (s.ctl.intreq ||| 0x0040#16) s.ctl.intena) ∧
    (rest.getLsbD 10 = false →
      let runs : Instr → Prop := fun i => ∃ t, exec i s = .next t ∧ t.blitter.busy = s.blitter.busy ∧
        t.blitter.prog = s.blitter.prog ∧ t.ctl = s.ctl
      runs (.uopBusidle rest) ∧ runs (.uopBus rest) ∧ runs (.uopWriteD rest) ∧ runs (.uopFetchA rest) ∧
      runs (.uopFetchB rest) ∧ runs (.uopFetchC rest) ∧ runs (.uopHoldA rest) ∧ runs (.uopHoldB rest) ∧
      runs (.uopHoldD rest) ∧ runs (.uopFill rest) ∧ runs (.uopRepeat rest))

/-- The micro-program rows (executing one is selecting it: log entry 18).  Each of the 64 area rows selects its entry
of the configuration's table, at `bltpc = 0`; with the default table, that entry is the row's words of rule R321.  The
line program also sets its counters as if `W = 1`: that these are `W`, `x` and `y`, and that `colA..colD` keep their
values, is the model's choice (log entry 38).  The fast path ends with the stripped program and the counters
restored. -/
def Obligations.ProgramRows : Prop :=
  (∀ r ∈ programTable.zipIdx, ∀ s : State,
    exec r.1.1 s = .next { s with blitter := { s.blitter with
      prog := some (s.cfg.bltProgram.getD (60 - 4 * (r.2 / 4) + r.2 % 4) []), pc := 0 } }) ∧
  (∀ r ∈ programTable, ∀ s : State, s.cfg.bltProgram = defaultBltProgram →
    exec r.1 s = .next { s with blitter := { s.blitter with prog := some r.2, pc := 0 } }) ∧
  (∀ s : State, exec .bltprogLine s = .next { s with blitter := { s.blitter with
    prog := some [0x002#16, 0x001#16, 0x002#16, 0x801#16, 0x400#16]
    pc := 0, w := 1, x := 1, y := s.blitter.hgt } }) ∧
  (∀ s : State, ∃ t, exec .bltFastpath s = .next t ∧ t.blitter.pc = 0 ∧ t.blitter.x = s.blitter.w ∧
    t.blitter.y = s.blitter.hgt ∧ t.blitter.busy = s.blitter.busy ∧
    t.blitter.prog = some (s.cfg.bltProgram.getD
      (4 * (s.blitter.bltcon0.extractLsb' 8 4).toNat
        + 2 * (s.blitter.bltcon1.getLsbD 4 || s.blitter.bltcon1.getLsbD 3).toNat + 1) []))

/-- A write to `BLTSIZE` launches a blit: the counters and status bits, and the program of the shape, the fill
selection and the accuracy.  In the fast path the accurate program's words run at once from those counters
(`runData`, whose words `MicroWordEffect` gives: each store is of `dhold` at `bltdpt`), and in line mode all the
pixels (`linePixels`, each by `LinePixel`): Chip RAM, the bus value of the slot and the Blitter are what they leave,
with the counters set for the program that follows.  That a line sets `W`, `x` and `y` and leaves `colA..colD` at the
width is the model's choice (log entry 38), and the bus value that the fast path and a line leave is its reading
(log entry 26).  Nothing else changes but the Blitter's event; that it is cancelled is read from rules R301 and R302
(log entry 19). -/
def Obligations.BltsizeLaunches : Prop :=
  ∀ (s : State) (v : Word),
    let b := s.blitter
    let width := if v.toNat % 64 = 0 then 64 else v.toNat % 64
    let height := if v.toNat / 64 = 0 then 1024 else v.toNat / 64
    let counted : Blitter := { b with
      w := width, hgt := height, x := width, y := height
      colA := width, colB := width, colC := width, colD := width
      busy := true, zero := true, lockD := true, aold := 0#16, bold := 0#16
      fillCarry := b.bltcon1.getLsbD 2, pc := 0 }
    let index := 4 * (b.bltcon0.extractLsb' 8 4).toNat + 2 * (b.bltcon1.getLsbD 4 || b.bltcon1.getLsbD 3).toNat
    let leaves : State → Blitter → Prop := fun run k =>
      exec (.writeBltsize (.write v)) s = .next { s with
        mem := { s.mem with chip := run.mem.chip }
        bus := { s.bus with line := run.bus.line }
        events := s.events.put slotBlitter
          { s.events.slots[slotBlitter] with trigger := neverTrigger, id := .none }
        blitter := k }
    (b.bltcon1.getLsbD 0 = false → s.cfg.accuracy = .accurate →
      leaves s { counted with prog := some (s.cfg.bltProgram.getD index []) }) ∧
    (b.bltcon1.getLsbD 0 = false → s.cfg.accuracy = .fast →
      let run := runData (s.cfg.bltProgram.getD index []) (6 * (width * height) + 6) { s with blitter := counted }
      leaves run { run.blitter with
        x := width, y := height, pc := 0, prog := some (s.cfg.bltProgram.getD (index + 1) []) }) ∧
    (b.bltcon1.getLsbD 0 = true →
      let run := linePixels height { s with blitter := { counted with oneDot := false, lineFirst := true } }
      leaves run { run.blitter with
        w := 1, x := 1, y := height, pc := 0
        prog := some [0x002#16, 0x001#16, 0x002#16, 0x801#16, 0x400#16] })

/-- The length law (rules R355, R356): with the default table an accurate area blit is busy for exactly
`K*W*H + tail` executed micro-instructions, and then has raised BLIT. -/
def Obligations.BlitLengthLaw : Prop :=
  ∀ (s : State) (v : Word), s.cfg.bltProgram = defaultBltProgram → s.cfg.accuracy = .accurate →
    s.blitter.bltcon1.getLsbD 0 = false →
    let t := launch v s
    let n := bodyLength (s.blitter.bltcon0.extractLsb' 8 4) * (t.blitter.w * t.blitter.hgt)
      + tailLength (s.blitter.bltcon0.extractLsb' 8 4)
    (∀ k, k < n → (blitterRun k t).blitter.busy = true) ∧ (blitterRun n t).blitter.busy = false ∧
      (blitterRun n t).ctl.intreq.getLsbD 6 = true

/-- The equivalence of the two accuracy settings (rule R351): run to the end, the same blit leaves the same Chip
RAM, pointers, zero flag, shifter and fill state, after the same number of Blitter steps. -/
def Obligations.FastEqualsAccurate : Prop :=
  ∀ (s : State) (v : Word), s.cfg.bltProgram = defaultBltProgram → s.blitter.bltcon1.getLsbD 0 = false →
    let accurate := launch v { s with cfg := { s.cfg with accuracy := .accurate } }
    let fast := launch v { s with cfg := { s.cfg with accuracy := .fast } }
    let n := bodyLength (s.blitter.bltcon0.extractLsb' 8 4) * (accurate.blitter.w * accurate.blitter.hgt)
      + tailLength (s.blitter.bltcon0.extractLsb' 8 4)
    let a := blitterRun n accurate
    let f := blitterRun n fast
    (∀ k, k < n → (blitterRun k accurate).blitter.busy = true ∧ (blitterRun k fast).blitter.busy = true) ∧
      a.blitter.busy = false ∧ f.blitter.busy = false ∧ a.mem = f.mem ∧
      a.blitter.bltapt = f.blitter.bltapt ∧ a.blitter.bltbpt = f.blitter.bltbpt ∧
      a.blitter.bltcpt = f.blitter.bltcpt ∧ a.blitter.bltdpt = f.blitter.bltdpt ∧
      a.blitter.zero = f.blitter.zero ∧ a.blitter.aold = f.blitter.aold ∧ a.blitter.bold = f.blitter.bold ∧
      a.blitter.dhold = f.blitter.dhold ∧ a.blitter.fillCarry = f.blitter.fillCarry

/-- One pixel of a line (rules R118, R341-R344, R348): the words held and the word computed, where it is stored, the
bus value of the slot (where the slot has an owner: log entry 26), and the step to the next pixel.  The pixel's
place, eight times `bltcpt` plus `ASH`, moves by one pixel for a step in x and by the modulo C for a step in y; the
steps follow the octant bits and the sign from before the update.  Every other field of the Blitter, the other bits
of `BLTCON0` and `BLTCON1` and the rest of the machine are unchanged. -/
def Obligations.LinePixel : Prop :=
  ∀ s : State, s.cfg.dmaAddrBits ≤ 32 →
    let b := s.blitter
    let t := linePixel s
    let k := t.blitter
    let hidden := b.bltcon1.getLsbD 1 && b.oneDot
    let c := if b.bltcon0.getLsbD 9 then chipRead16 b.bltcpt s else b.chold
    let a := if hidden then 0#16 else (b.anew &&& b.bltafwm) >>> (b.bltcon0.toNat / 0x1000)
    let texture := if b.bnew.getLsbD (b.bltcon1.toNat / 0x1000) then 0xFFFF#16 else 0#16
    let d := minterm a texture c (b.bltcon0.extractLsb' 0 8)
    let major : Int := if b.bltcon1.getLsbD 2 then -1 else 1
    let minor : Int := if b.bltcon1.getLsbD 6 then 0 else if b.bltcon1.getLsbD 3 then -1 else 1
    let dx := if b.bltcon1.getLsbD 4 then major else minor
    let dy := if b.bltcon1.getLsbD 4 then minor else major
    let place : Blitter → Int := fun q => 8 * (q.bltcpt.toNat : Int) + (q.bltcon0.toNat / 0x1000 : Nat)
    let stores := b.bltcon0.getLsbD 8 && !hidden
    t = { s with
      mem := t.mem, blitter := k
      bus := { s.bus with line :=
        if stores then valueLine s.bus.line s.beam.h.toNat d
        else if b.bltcon0.getLsbD 9 then valueLine s.bus.line s.beam.h.toNat c else s.bus.line } } ∧
    t.mem = (if stores then
        { s.mem with chip :=
          s.mem.chip.setWord (chipOffset s.cfg (if b.lineFirst then b.bltdpt else b.bltcpt)) d }
      else s.mem) ∧
    k = { b with
      chold := c, ahold := a, bhold := texture, dhold := d
      zero := b.zero && decide (d = 0#16)
      bltcon0 := k.bltcon0, bltcon1 := k.bltcon1
      bltapt := k.bltapt, bltcpt := k.bltcpt, bltdpt := k.bltcpt
      oneDot := decide (dy = 0), lineFirst := false } ∧
    k.bltcon0.toNat % 0x1000 = b.bltcon0.toNat % 0x1000 ∧ k.bltcon1 &&& 0x0FBF#16 = b.bltcon1 &&& 0x0FBF#16 ∧
    (k.bltcpt = b.bltcpt ∨ k.bltcpt.toNat < 2 ^ s.cfg.dmaAddrBits) ∧
    (place k - (place b + dx + 8 * dy * b.bltcmod.toInt)) % (8 * 2 ^ s.cfg.dmaAddrBits) = 0 ∧
    k.bltapt = (if b.bltcon0.getLsbD 11 then
        ptrAdd s.cfg b.bltapt ((if b.bltcon1.getLsbD 6 then b.bltbmod else b.bltamod).signExtend 32)
      else b.bltapt) ∧
    k.bltcon1.getLsbD 6 = k.bltapt.getLsbD 15 ∧
    k.bltcon1.toNat / 0x1000 = (b.bltcon1.toNat / 0x1000 + 15) % 16

/-! ### Memory and the CPU's accesses -/

/-- A word written to RAM at an even address is read back from it (rule R117), and the write changes no byte
outside its two. -/
def Obligations.WriteReadRoundTrip : Prop :=
  ∀ (s : State) (a : Addr) (v : Word), MemoryCanonical s → Cfg.valid s.cfg = true → a.getLsbD 0 = false →
    isRam s (regionOf s a) →
    ∃ t, write16 a v s = .next t ∧
      (∃ u, read16 a t = .next u ∧ u.cpu.readData = v.setWidth 32) ∧
      (∀ k, (regionOf s a ≠ .chip ∨ (k ≠ regionOffset s.cfg .chip a ∧ k ≠ regionOffset s.cfg .chip a + 1)) →
        t.mem.chip.byteAt k = s.mem.chip.byteAt k) ∧
      (∀ k, (regionOf s a ≠ .slow ∨ (k ≠ regionOffset s.cfg .slow a ∧ k ≠ regionOffset s.cfg .slow a + 1)) →
        t.mem.slow.byteAt k = s.mem.slow.byteAt k) ∧
      (∀ k, (regionOf s a ≠ .fast ∨ (k ≠ regionOffset s.cfg .fast a ∧ k ≠ regionOffset s.cfg .fast a + 1)) →
        t.mem.fast.byteAt k = s.mem.fast.byteAt k) ∧
      (∀ k, (regionOf s a ≠ .wom ∨ (k ≠ regionOffset s.cfg .wom a ∧ k ≠ regionOffset s.cfg .wom a + 1)) →
        t.mem.wom.byteAt k = s.mem.wom.byteAt k) ∧
      t = { s with mem := { s.mem with
        chip := t.mem.chip, slow := t.mem.slow, fast := t.mem.fast, wom := t.mem.wom } }

/-- A word access at an odd address is made at the even address below, and one violation is recorded; an access
to an unmapped address is recorded, a read answers the bus value and a write is ignored.  The form of the
record is the model's (log entry 17), and so is the slot whose bus value an unmapped read answers (log entry
36). -/
def Obligations.FlaggedAccesses : Prop :=
  ∀ (s : State) (a : Addr) (v : Word),
    let flagged : ViolationCause → Bool → State := fun cause write => { s with records := { s.records with
      violations := s.records.violations + 1
      lastViolation := some { addr := a, width := 2, write := write, cause := cause } } }
    (a.getLsbD 0 = true →
      accessTransfer .read16 a s = read16 (a - 1#24) (flagged .oddAddress false) ∧
      accessTransfer (.write16 v) a s = write16 (a - 1#24) v (flagged .oddAddress true)) ∧
    (s.mem.memSrc.getD (a.toNat / 0x10000) .unmapped = .unmapped → a.getLsbD 0 = false →
      accessTransfer .read16 a s = .next { flagged .unmapped false with
        cpu := { s.cpu with readData := (busQuirk s).setWidth 32 } } ∧
      accessTransfer (.write16 v) a s = .next (flagged .unmapped true))

/-! ### Agnus -/

/-- The owner of a slot is the highest of its requests in the order refresh, disk, audio, sprite, bitplane, Copper,
Blitter, CPU, and NONE without a request (rules R211-R213, R215): each request as its rule gives it.  Hence a DMA
request keeps the CPU from the slot (rule R216), and the Blitter gives way to a CPU that has waited for 3 slots
unless `BLTPRI` is set (rule R221). -/
def Obligations.ArbiterPriority : Prop :=
  ∀ s : State,
    let h := s.beam.h.toNat
    let d : Nat → Bool := fun bit => s.ctl.dmacon.getLsbD 9 && s.ctl.dmacon.getLsbD bit
    let request : BusOwner → Prop := fun o => match o with
      | .refresh => h ∈ s.cfg.slotMap.refresh
      | .disk => h ∈ s.cfg.slotMap.disk ∧ d 4 = true ∧ s.ext.disk.wants = true
      | .audio => ∃ n : Fin 4, h = s.cfg.slotMap.audio[n] ∧ d n.val = true ∧ s.ext.audio[n].wants = true
      | .sprite => d 5 = true ∧ ∃ n : Fin 8,
          (h = s.cfg.slotMap.sprite[n].1 ∨ h = s.cfg.slotMap.sprite[n].2) ∧
          (s.sprites[n].dma = .fetchCtl ∨ s.sprites[n].dma = .fetchData)
      | .bitplane => d 8 = true ∧ bplFetchPlane s ≠ none
      | .copper => d 7 = true ∧ (h % 2 = 1 ↔ s.cfg.copperParity = .odd) ∧
          (s.copper.st = .fetch1 ∨ s.copper.st = .fetch2)
      | .blitter => d 6 = true ∧ s.blitter.busy = true ∧ (s.cfg.blitterSlots = .any ∨ h % 2 = 0) ∧
          (∃ p w, s.blitter.prog = some p ∧ p[s.blitter.pc]? = some w ∧
            (w.getLsbD 1 || w.getLsbD 2 || w.getLsbD 3 || w.getLsbD 4 || w.getLsbD 5) = true) ∧
          (s.ctl.dmacon.getLsbD 10 = true ∨ s.bus.cpuWaitSlots < 3)
      | .cpu => s.bus.reqCPU = true
      | .none => True
    let rank : BusOwner → Nat := fun o => match o with
      | .refresh => 1 | .disk => 2 | .audio => 3 | .sprite => 4 | .bitplane => 5 | .copper => 6 | .blitter => 7
      | .cpu => 8 | .none => 9
    request (ownerOf s) ∧ (∀ o, rank o < rank (ownerOf s) → ¬ request o) ∧
    (busIsFree s = true ↔ ∀ o, rank o < 7 → ¬ request o) ∧
    (ownerOf s = .cpu → busIsFree s = true ∧ s.bus.reqCPU = true) ∧
    (s.ctl.dmacon.getLsbD 10 = false → 3 ≤ s.bus.cpuWaitSlots → ownerOf s ≠ .blitter)

/-- The beam: one position further, to the next line after the last slot, to line 0 of a new frame after the last
line, where the frame counter advances, VERTB is raised, and the Copper restarts.  The tests for an end are the
equalities of rule R201, but that a line beyond the last one (a VPOSW write in it made the frame the shorter one) ends
the frame too is the model's choice (log entry 9).  A beam inside the line and the frame stays inside them (rule R11),
and the next line is inside the frame whichever line came before. -/
def Obligations.BeamAdvances : Prop :=
  ∀ s : State,
    (s.beam.h.toNat + 1 ≠ s.cfg.lineSlots →
      beamAdvance s = { s with beam := { s.beam with h := s.beam.h + 1#8 }, now := s.now + 1#64 }) ∧
    (s.beam.h.toNat + 1 = s.cfg.lineSlots → s.beam.v.toNat + 1 < frameLines s →
      (beamAdvance s).beam = { s.beam with h := 0#8, v := s.beam.v + 1#9 } ∧ (beamAdvance s).bus.line = [] ∧
      (beamAdvance s).copper = s.copper ∧ (beamAdvance s).ctl = s.ctl) ∧
    (s.beam.h.toNat + 1 = s.cfg.lineSlots → frameLines s ≤ s.beam.v.toNat + 1 →
      (beamAdvance s).beam = { v := 0#9, h := 0#8, frame := s.beam.frame + 1#64
                               lof := if s.bpl.bplcon0.getLsbD 2 then !s.beam.lof else true } ∧
      (beamAdvance s).copper = { s.copper with pc := s.copper.cop1lc, st := .fetch1, skipNext := false } ∧
      (beamAdvance s).ctl.intreq = s.ctl.intreq ||| 0x0020#16) ∧
    (Cfg.valid s.cfg = true → s.beam.h.toNat < s.cfg.lineSlots →
      (s.beam.v.toNat < frameLines s ∨ s.beam.h.toNat + 1 = s.cfg.lineSlots) →
      (beamAdvance s).beam.h.toNat < (beamAdvance s).cfg.lineSlots ∧
      (beamAdvance s).beam.v.toNat < frameLines (beamAdvance s))

/-! ### Denise -/

/-- The pixels of a load in slot `h` (rules R387, R390): each of the 16 bits of a plane that the plane count
includes, MSB first, two coordinates wide in low resolution and one in high, from the scroll delay on; beyond them,
and for a plane above the count, 0; before them what was there.  That bits land at coordinates from `4*LINE_SLOTS` on
is the model's choice of rules R387 and R390 against the remark of rule R428 (log entry 33). -/
def Obligations.ShifterEmits : Prop :=
  ∀ (con0 con1 w : Word) (h p x : Nat) (old : List Bool), x < hpixels → 1 ≤ p →
    let pw := if con0.getLsbD 15 then 1 else 2
    let start := 4 * h + scrollDelay con1 p
    (emitPlane con0 con1 h p w old).getD x false =
      if x < start then old.getD x false
      else if p ≤ planeCount (con0.getLsbD 15) con0 ∧ x < start + 16 * pw then w.getLsbD (15 - (x - start) / pw) else false

/-- A pixel outside the display window shows colour register 0, whatever the bitplanes and sprites hold (rule
R422); it sets no collision bit (rule R412), and HAM's running value becomes colour register 0 (rule R427). -/
def Obligations.BorderPixel : Prop :=
  ∀ (s : State) (x : Nat), (s.window.diwV && s.denise.rDiwH) = false →
    (translatePixel x s).2 = rgba s.denise.rColor[0] ∧
    (translatePixel x s).1.denise.clxdat = s.denise.clxdat ∧
    (translatePixel x s).1.denise.hamPrev = s.denise.rColor[0]

/-- HAM (rule R427): the palette, or one channel of the colour before replaced. -/
def Obligations.HamColours : Prop :=
  ∀ (color : Vector (BitVec 12) 32) (prev : BitVec 12) (d : BitVec 4),
    hamNext color prev (0#2 ++ d : BitVec 6) = color[Fin.ofNat 32 d.toNat] ∧
    (hamNext color prev (1#2 ++ d : BitVec 6)).toNat = prev.toNat / 16 * 16 + d.toNat ∧
    (hamNext color prev (2#2 ++ d : BitVec 6)).toNat = d.toNat * 256 + prev.toNat % 256 ∧
    (hamNext color prev (3#2 ++ d : BitVec 6)).toNat =
      prev.toNat / 256 * 256 + d.toNat * 16 + prev.toNat % 16
end

