-- ==== Sys2Proof/Laws/State.lean ====
section
/-! SUPPORT. What each named update of the state does to each field: one lemma per field, so that no proof
unfolds a record update. -/

namespace Sys2Proof.Machine

variable (s : State)

@[simp] theorem recordBus_cfg (o : BusOwner) (v : Word) : (recordBus o v s).cfg = s.cfg := rfl
@[simp] theorem recordBus_powered (o : BusOwner) (v : Word) : (recordBus o v s).powered = s.powered := rfl
@[simp] theorem recordBus_now (o : BusOwner) (v : Word) : (recordBus o v s).now = s.now := rfl
@[simp] theorem recordBus_beam (o : BusOwner) (v : Word) : (recordBus o v s).beam = s.beam := rfl
@[simp] theorem recordBus_bus (o : BusOwner) (v : Word) :
    (recordBus o v s).bus = { s.bus with line := busLine s.bus.line s.beam.h.toNat o v } := rfl
@[simp] theorem recordBus_events (o : BusOwner) (v : Word) : (recordBus o v s).events = s.events := rfl
@[simp] theorem recordBus_pending (o : BusOwner) (v : Word) : (recordBus o v s).pending = s.pending := rfl
@[simp] theorem recordBus_ctl (o : BusOwner) (v : Word) : (recordBus o v s).ctl = s.ctl := rfl
@[simp] theorem recordBus_copper (o : BusOwner) (v : Word) : (recordBus o v s).copper = s.copper := rfl
@[simp] theorem recordBus_blitter (o : BusOwner) (v : Word) : (recordBus o v s).blitter = s.blitter := rfl
@[simp] theorem recordBus_window (o : BusOwner) (v : Word) : (recordBus o v s).window = s.window := rfl
@[simp] theorem recordBus_bpl (o : BusOwner) (v : Word) : (recordBus o v s).bpl = s.bpl := rfl
@[simp] theorem recordBus_sprites (o : BusOwner) (v : Word) : (recordBus o v s).sprites = s.sprites := rfl
@[simp] theorem recordBus_denise (o : BusOwner) (v : Word) : (recordBus o v s).denise = s.denise := rfl
@[simp] theorem recordBus_frames (o : BusOwner) (v : Word) : (recordBus o v s).frames = s.frames := rfl
@[simp] theorem recordBus_mem (o : BusOwner) (v : Word) : (recordBus o v s).mem = s.mem := rfl
@[simp] theorem recordBus_records (o : BusOwner) (v : Word) : (recordBus o v s).records = s.records := rfl
@[simp] theorem recordBus_cpu (o : BusOwner) (v : Word) : (recordBus o v s).cpu = s.cpu := rfl
@[simp] theorem recordBus_ext (o : BusOwner) (v : Word) : (recordBus o v s).ext = s.ext := rfl

@[simp] theorem recordValue_cfg (v : Word) : (recordValue v s).cfg = s.cfg := rfl
@[simp] theorem recordValue_powered (v : Word) : (recordValue v s).powered = s.powered := rfl
@[simp] theorem recordValue_now (v : Word) : (recordValue v s).now = s.now := rfl
@[simp] theorem recordValue_beam (v : Word) : (recordValue v s).beam = s.beam := rfl
@[simp] theorem recordValue_bus (v : Word) :
    (recordValue v s).bus = { s.bus with line := valueLine s.bus.line s.beam.h.toNat v } := rfl
@[simp] theorem recordValue_events (v : Word) : (recordValue v s).events = s.events := rfl
@[simp] theorem recordValue_pending (v : Word) : (recordValue v s).pending = s.pending := rfl
@[simp] theorem recordValue_ctl (v : Word) : (recordValue v s).ctl = s.ctl := rfl
@[simp] theorem recordValue_copper (v : Word) : (recordValue v s).copper = s.copper := rfl
@[simp] theorem recordValue_blitter (v : Word) : (recordValue v s).blitter = s.blitter := rfl
@[simp] theorem recordValue_window (v : Word) : (recordValue v s).window = s.window := rfl
@[simp] theorem recordValue_bpl (v : Word) : (recordValue v s).bpl = s.bpl := rfl
@[simp] theorem recordValue_sprites (v : Word) : (recordValue v s).sprites = s.sprites := rfl
@[simp] theorem recordValue_denise (v : Word) : (recordValue v s).denise = s.denise := rfl
@[simp] theorem recordValue_frames (v : Word) : (recordValue v s).frames = s.frames := rfl
@[simp] theorem recordValue_mem (v : Word) : (recordValue v s).mem = s.mem := rfl
@[simp] theorem recordValue_records (v : Word) : (recordValue v s).records = s.records := rfl
@[simp] theorem recordValue_cpu (v : Word) : (recordValue v s).cpu = s.cpu := rfl
@[simp] theorem recordValue_ext (v : Word) : (recordValue v s).ext = s.ext := rfl

@[simp] theorem chipFetch_cfg (p : Ptr) : (chipFetch p s).cfg = s.cfg := rfl
@[simp] theorem chipFetch_powered (p : Ptr) : (chipFetch p s).powered = s.powered := rfl
@[simp] theorem chipFetch_now (p : Ptr) : (chipFetch p s).now = s.now := rfl
@[simp] theorem chipFetch_beam (p : Ptr) : (chipFetch p s).beam = s.beam := rfl
@[simp] theorem chipFetch_bus (p : Ptr) :
    (chipFetch p s).bus = { s.bus with line := valueLine s.bus.line s.beam.h.toNat (chipRead16 p s) } := rfl
@[simp] theorem chipFetch_events (p : Ptr) : (chipFetch p s).events = s.events := rfl
@[simp] theorem chipFetch_pending (p : Ptr) : (chipFetch p s).pending = s.pending := rfl
@[simp] theorem chipFetch_ctl (p : Ptr) : (chipFetch p s).ctl = s.ctl := rfl
@[simp] theorem chipFetch_copper (p : Ptr) : (chipFetch p s).copper = s.copper := rfl
@[simp] theorem chipFetch_blitter (p : Ptr) : (chipFetch p s).blitter = s.blitter := rfl
@[simp] theorem chipFetch_window (p : Ptr) : (chipFetch p s).window = s.window := rfl
@[simp] theorem chipFetch_bpl (p : Ptr) : (chipFetch p s).bpl = s.bpl := rfl
@[simp] theorem chipFetch_sprites (p : Ptr) : (chipFetch p s).sprites = s.sprites := rfl
@[simp] theorem chipFetch_denise (p : Ptr) : (chipFetch p s).denise = s.denise := rfl
@[simp] theorem chipFetch_frames (p : Ptr) : (chipFetch p s).frames = s.frames := rfl
@[simp] theorem chipFetch_mem (p : Ptr) : (chipFetch p s).mem = s.mem := rfl
@[simp] theorem chipFetch_records (p : Ptr) : (chipFetch p s).records = s.records := rfl
@[simp] theorem chipFetch_cpu (p : Ptr) : (chipFetch p s).cpu = s.cpu := rfl
@[simp] theorem chipFetch_ext (p : Ptr) : (chipFetch p s).ext = s.ext := rfl

@[simp] theorem chipWrite16_cfg (p : Ptr) (v : Word) : (chipWrite16 p v s).cfg = s.cfg := rfl
@[simp] theorem chipWrite16_powered (p : Ptr) (v : Word) : (chipWrite16 p v s).powered = s.powered := rfl
@[simp] theorem chipWrite16_now (p : Ptr) (v : Word) : (chipWrite16 p v s).now = s.now := rfl
@[simp] theorem chipWrite16_beam (p : Ptr) (v : Word) : (chipWrite16 p v s).beam = s.beam := rfl
@[simp] theorem chipWrite16_bus (p : Ptr) (v : Word) :
    (chipWrite16 p v s).bus = { s.bus with line := valueLine s.bus.line s.beam.h.toNat v } := rfl
@[simp] theorem chipWrite16_events (p : Ptr) (v : Word) : (chipWrite16 p v s).events = s.events := rfl
@[simp] theorem chipWrite16_pending (p : Ptr) (v : Word) : (chipWrite16 p v s).pending = s.pending := rfl
@[simp] theorem chipWrite16_ctl (p : Ptr) (v : Word) : (chipWrite16 p v s).ctl = s.ctl := rfl
@[simp] theorem chipWrite16_copper (p : Ptr) (v : Word) : (chipWrite16 p v s).copper = s.copper := rfl
@[simp] theorem chipWrite16_blitter (p : Ptr) (v : Word) : (chipWrite16 p v s).blitter = s.blitter := rfl
@[simp] theorem chipWrite16_window (p : Ptr) (v : Word) : (chipWrite16 p v s).window = s.window := rfl
@[simp] theorem chipWrite16_bpl (p : Ptr) (v : Word) : (chipWrite16 p v s).bpl = s.bpl := rfl
@[simp] theorem chipWrite16_sprites (p : Ptr) (v : Word) : (chipWrite16 p v s).sprites = s.sprites := rfl
@[simp] theorem chipWrite16_denise (p : Ptr) (v : Word) : (chipWrite16 p v s).denise = s.denise := rfl
@[simp] theorem chipWrite16_frames (p : Ptr) (v : Word) : (chipWrite16 p v s).frames = s.frames := rfl
@[simp] theorem chipWrite16_mem (p : Ptr) (v : Word) :
    (chipWrite16 p v s).mem = { s.mem with chip := s.mem.chip.setWord (chipOffset s.cfg p) v } := rfl
@[simp] theorem chipWrite16_records (p : Ptr) (v : Word) : (chipWrite16 p v s).records = s.records := rfl
@[simp] theorem chipWrite16_cpu (p : Ptr) (v : Word) : (chipWrite16 p v s).cpu = s.cpu := rfl
@[simp] theorem chipWrite16_ext (p : Ptr) (v : Word) : (chipWrite16 p v s).ext = s.ext := rfl

@[simp] theorem scheduleData_cfg (i : Fin 13) (t : BitVec 64) (id : EventId) (data : BitVec 64) : (scheduleData i t id data s).cfg = s.cfg := rfl
@[simp] theorem scheduleData_powered (i : Fin 13) (t : BitVec 64) (id : EventId) (data : BitVec 64) : (scheduleData i t id data s).powered = s.powered := rfl
@[simp] theorem scheduleData_now (i : Fin 13) (t : BitVec 64) (id : EventId) (data : BitVec 64) : (scheduleData i t id data s).now = s.now := rfl
@[simp] theorem scheduleData_beam (i : Fin 13) (t : BitVec 64) (id : EventId) (data : BitVec 64) : (scheduleData i t id data s).beam = s.beam := rfl
@[simp] theorem scheduleData_bus (i : Fin 13) (t : BitVec 64) (id : EventId) (data : BitVec 64) : (scheduleData i t id data s).bus = s.bus := rfl
@[simp] theorem scheduleData_events (i : Fin 13) (t : BitVec 64) (id : EventId) (data : BitVec 64) :
    (scheduleData i t id data s).events = s.events.put i { trigger := t, id := id, data := data } := rfl
@[simp] theorem scheduleData_pending (i : Fin 13) (t : BitVec 64) (id : EventId) (data : BitVec 64) : (scheduleData i t id data s).pending = s.pending := rfl
@[simp] theorem scheduleData_ctl (i : Fin 13) (t : BitVec 64) (id : EventId) (data : BitVec 64) : (scheduleData i t id data s).ctl = s.ctl := rfl
@[simp] theorem scheduleData_copper (i : Fin 13) (t : BitVec 64) (id : EventId) (data : BitVec 64) : (scheduleData i t id data s).copper = s.copper := rfl
@[simp] theorem scheduleData_blitter (i : Fin 13) (t : BitVec 64) (id : EventId) (data : BitVec 64) : (scheduleData i t id data s).blitter = s.blitter := rfl
@[simp] theorem scheduleData_window (i : Fin 13) (t : BitVec 64) (id : EventId) (data : BitVec 64) : (scheduleData i t id data s).window = s.window := rfl
@[simp] theorem scheduleData_bpl (i : Fin 13) (t : BitVec 64) (id : EventId) (data : BitVec 64) : (scheduleData i t id data s).bpl = s.bpl := rfl
@[simp] theorem scheduleData_sprites (i : Fin 13) (t : BitVec 64) (id : EventId) (data : BitVec 64) : (scheduleData i t id data s).sprites = s.sprites := rfl
@[simp] theorem scheduleData_denise (i : Fin 13) (t : BitVec 64) (id : EventId) (data : BitVec 64) : (scheduleData i t id data s).denise = s.denise := rfl
@[simp] theorem scheduleData_frames (i : Fin 13) (t : BitVec 64) (id : EventId) (data : BitVec 64) : (scheduleData i t id data s).frames = s.frames := rfl
@[simp] theorem scheduleData_mem (i : Fin 13) (t : BitVec 64) (id : EventId) (data : BitVec 64) : (scheduleData i t id data s).mem = s.mem := rfl
@[simp] theorem scheduleData_records (i : Fin 13) (t : BitVec 64) (id : EventId) (data : BitVec 64) : (scheduleData i t id data s).records = s.records := rfl
@[simp] theorem scheduleData_cpu (i : Fin 13) (t : BitVec 64) (id : EventId) (data : BitVec 64) : (scheduleData i t id data s).cpu = s.cpu := rfl
@[simp] theorem scheduleData_ext (i : Fin 13) (t : BitVec 64) (id : EventId) (data : BitVec 64) : (scheduleData i t id data s).ext = s.ext := rfl

@[simp] theorem scheduleAbs_cfg (i : Fin 13) (t : BitVec 64) (id : EventId) : (scheduleAbs i t id s).cfg = s.cfg := rfl
@[simp] theorem scheduleAbs_powered (i : Fin 13) (t : BitVec 64) (id : EventId) : (scheduleAbs i t id s).powered = s.powered := rfl
@[simp] theorem scheduleAbs_now (i : Fin 13) (t : BitVec 64) (id : EventId) : (scheduleAbs i t id s).now = s.now := rfl
@[simp] theorem scheduleAbs_beam (i : Fin 13) (t : BitVec 64) (id : EventId) : (scheduleAbs i t id s).beam = s.beam := rfl
@[simp] theorem scheduleAbs_bus (i : Fin 13) (t : BitVec 64) (id : EventId) : (scheduleAbs i t id s).bus = s.bus := rfl
@[simp] theorem scheduleAbs_events (i : Fin 13) (t : BitVec 64) (id : EventId) :
    (scheduleAbs i t id s).events = s.events.put i { trigger := t, id := id, data := 0 } := rfl
@[simp] theorem scheduleAbs_pending (i : Fin 13) (t : BitVec 64) (id : EventId) : (scheduleAbs i t id s).pending = s.pending := rfl
@[simp] theorem scheduleAbs_ctl (i : Fin 13) (t : BitVec 64) (id : EventId) : (scheduleAbs i t id s).ctl = s.ctl := rfl
@[simp] theorem scheduleAbs_copper (i : Fin 13) (t : BitVec 64) (id : EventId) : (scheduleAbs i t id s).copper = s.copper := rfl
@[simp] theorem scheduleAbs_blitter (i : Fin 13) (t : BitVec 64) (id : EventId) : (scheduleAbs i t id s).blitter = s.blitter := rfl
@[simp] theorem scheduleAbs_window (i : Fin 13) (t : BitVec 64) (id : EventId) : (scheduleAbs i t id s).window = s.window := rfl
@[simp] theorem scheduleAbs_bpl (i : Fin 13) (t : BitVec 64) (id : EventId) : (scheduleAbs i t id s).bpl = s.bpl := rfl
@[simp] theorem scheduleAbs_sprites (i : Fin 13) (t : BitVec 64) (id : EventId) : (scheduleAbs i t id s).sprites = s.sprites := rfl
@[simp] theorem scheduleAbs_denise (i : Fin 13) (t : BitVec 64) (id : EventId) : (scheduleAbs i t id s).denise = s.denise := rfl
@[simp] theorem scheduleAbs_frames (i : Fin 13) (t : BitVec 64) (id : EventId) : (scheduleAbs i t id s).frames = s.frames := rfl
@[simp] theorem scheduleAbs_mem (i : Fin 13) (t : BitVec 64) (id : EventId) : (scheduleAbs i t id s).mem = s.mem := rfl
@[simp] theorem scheduleAbs_records (i : Fin 13) (t : BitVec 64) (id : EventId) : (scheduleAbs i t id s).records = s.records := rfl
@[simp] theorem scheduleAbs_cpu (i : Fin 13) (t : BitVec 64) (id : EventId) : (scheduleAbs i t id s).cpu = s.cpu := rfl
@[simp] theorem scheduleAbs_ext (i : Fin 13) (t : BitVec 64) (id : EventId) : (scheduleAbs i t id s).ext = s.ext := rfl

@[simp] theorem scheduleRel_cfg (i : Fin 13) (d : BitVec 64) (id : EventId) : (scheduleRel i d id s).cfg = s.cfg := rfl
@[simp] theorem scheduleRel_powered (i : Fin 13) (d : BitVec 64) (id : EventId) : (scheduleRel i d id s).powered = s.powered := rfl
@[simp] theorem scheduleRel_now (i : Fin 13) (d : BitVec 64) (id : EventId) : (scheduleRel i d id s).now = s.now := rfl
@[simp] theorem scheduleRel_beam (i : Fin 13) (d : BitVec 64) (id : EventId) : (scheduleRel i d id s).beam = s.beam := rfl
@[simp] theorem scheduleRel_bus (i : Fin 13) (d : BitVec 64) (id : EventId) : (scheduleRel i d id s).bus = s.bus := rfl
@[simp] theorem scheduleRel_events (i : Fin 13) (d : BitVec 64) (id : EventId) :
    (scheduleRel i d id s).events = s.events.put i { trigger := s.now + d, id := id, data := 0 } := rfl
@[simp] theorem scheduleRel_pending (i : Fin 13) (d : BitVec 64) (id : EventId) : (scheduleRel i d id s).pending = s.pending := rfl
@[simp] theorem scheduleRel_ctl (i : Fin 13) (d : BitVec 64) (id : EventId) : (scheduleRel i d id s).ctl = s.ctl := rfl
@[simp] theorem scheduleRel_copper (i : Fin 13) (d : BitVec 64) (id : EventId) : (scheduleRel i d id s).copper = s.copper := rfl
@[simp] theorem scheduleRel_blitter (i : Fin 13) (d : BitVec 64) (id : EventId) : (scheduleRel i d id s).blitter = s.blitter := rfl
@[simp] theorem scheduleRel_window (i : Fin 13) (d : BitVec 64) (id : EventId) : (scheduleRel i d id s).window = s.window := rfl
@[simp] theorem scheduleRel_bpl (i : Fin 13) (d : BitVec 64) (id : EventId) : (scheduleRel i d id s).bpl = s.bpl := rfl
@[simp] theorem scheduleRel_sprites (i : Fin 13) (d : BitVec 64) (id : EventId) : (scheduleRel i d id s).sprites = s.sprites := rfl
@[simp] theorem scheduleRel_denise (i : Fin 13) (d : BitVec 64) (id : EventId) : (scheduleRel i d id s).denise = s.denise := rfl
@[simp] theorem scheduleRel_frames (i : Fin 13) (d : BitVec 64) (id : EventId) : (scheduleRel i d id s).frames = s.frames := rfl
@[simp] theorem scheduleRel_mem (i : Fin 13) (d : BitVec 64) (id : EventId) : (scheduleRel i d id s).mem = s.mem := rfl
@[simp] theorem scheduleRel_records (i : Fin 13) (d : BitVec 64) (id : EventId) : (scheduleRel i d id s).records = s.records := rfl
@[simp] theorem scheduleRel_cpu (i : Fin 13) (d : BitVec 64) (id : EventId) : (scheduleRel i d id s).cpu = s.cpu := rfl
@[simp] theorem scheduleRel_ext (i : Fin 13) (d : BitVec 64) (id : EventId) : (scheduleRel i d id s).ext = s.ext := rfl

@[simp] theorem cancel_cfg (i : Fin 13) : (cancel i s).cfg = s.cfg := rfl
@[simp] theorem cancel_powered (i : Fin 13) : (cancel i s).powered = s.powered := rfl
@[simp] theorem cancel_now (i : Fin 13) : (cancel i s).now = s.now := rfl
@[simp] theorem cancel_beam (i : Fin 13) : (cancel i s).beam = s.beam := rfl
@[simp] theorem cancel_bus (i : Fin 13) : (cancel i s).bus = s.bus := rfl
@[simp] theorem cancel_events (i : Fin 13) :
    (cancel i s).events = s.events.put i { s.events.slots[i] with trigger := neverTrigger, id := .none } := rfl
@[simp] theorem cancel_pending (i : Fin 13) : (cancel i s).pending = s.pending := rfl
@[simp] theorem cancel_ctl (i : Fin 13) : (cancel i s).ctl = s.ctl := rfl
@[simp] theorem cancel_copper (i : Fin 13) : (cancel i s).copper = s.copper := rfl
@[simp] theorem cancel_blitter (i : Fin 13) : (cancel i s).blitter = s.blitter := rfl
@[simp] theorem cancel_window (i : Fin 13) : (cancel i s).window = s.window := rfl
@[simp] theorem cancel_bpl (i : Fin 13) : (cancel i s).bpl = s.bpl := rfl
@[simp] theorem cancel_sprites (i : Fin 13) : (cancel i s).sprites = s.sprites := rfl
@[simp] theorem cancel_denise (i : Fin 13) : (cancel i s).denise = s.denise := rfl
@[simp] theorem cancel_frames (i : Fin 13) : (cancel i s).frames = s.frames := rfl
@[simp] theorem cancel_mem (i : Fin 13) : (cancel i s).mem = s.mem := rfl
@[simp] theorem cancel_records (i : Fin 13) : (cancel i s).records = s.records := rfl
@[simp] theorem cancel_cpu (i : Fin 13) : (cancel i s).cpu = s.cpu := rfl
@[simp] theorem cancel_ext (i : Fin 13) : (cancel i s).ext = s.ext := rfl

@[simp] theorem pushLevel_cfg : (pushLevel s).cfg = s.cfg := rfl
@[simp] theorem pushLevel_powered : (pushLevel s).powered = s.powered := rfl
@[simp] theorem pushLevel_now : (pushLevel s).now = s.now := rfl
@[simp] theorem pushLevel_beam : (pushLevel s).beam = s.beam := rfl
@[simp] theorem pushLevel_bus : (pushLevel s).bus = s.bus := rfl
@[simp] theorem pushLevel_events : (pushLevel s).events = s.events := rfl
@[simp] theorem pushLevel_pending : (pushLevel s).pending = s.pending := rfl
@[simp] theorem pushLevel_ctl :
    (pushLevel s).ctl = { s.ctl with ipl := interruptLevel s.ctl.intreq s.ctl.intena } := rfl
@[simp] theorem pushLevel_copper : (pushLevel s).copper = s.copper := rfl
@[simp] theorem pushLevel_blitter : (pushLevel s).blitter = s.blitter := rfl
@[simp] theorem pushLevel_window : (pushLevel s).window = s.window := rfl
@[simp] theorem pushLevel_bpl : (pushLevel s).bpl = s.bpl := rfl
@[simp] theorem pushLevel_sprites : (pushLevel s).sprites = s.sprites := rfl
@[simp] theorem pushLevel_denise : (pushLevel s).denise = s.denise := rfl
@[simp] theorem pushLevel_frames : (pushLevel s).frames = s.frames := rfl
@[simp] theorem pushLevel_mem : (pushLevel s).mem = s.mem := rfl
@[simp] theorem pushLevel_records : (pushLevel s).records = s.records := rfl
@[simp] theorem pushLevel_cpu : (pushLevel s).cpu = s.cpu := rfl
@[simp] theorem pushLevel_ext : (pushLevel s).ext = s.ext := rfl

@[simp] theorem raiseIrq_cfg (n : Nat) : (raiseIrq n s).cfg = s.cfg := rfl
@[simp] theorem raiseIrq_powered (n : Nat) : (raiseIrq n s).powered = s.powered := rfl
@[simp] theorem raiseIrq_now (n : Nat) : (raiseIrq n s).now = s.now := rfl
@[simp] theorem raiseIrq_beam (n : Nat) : (raiseIrq n s).beam = s.beam := rfl
@[simp] theorem raiseIrq_bus (n : Nat) : (raiseIrq n s).bus = s.bus := rfl
@[simp] theorem raiseIrq_events (n : Nat) : (raiseIrq n s).events = s.events := rfl
@[simp] theorem raiseIrq_pending (n : Nat) : (raiseIrq n s).pending = s.pending := rfl
@[simp] theorem raiseIrq_ctl (n : Nat) :
    (raiseIrq n s).ctl = { s.ctl with intreq := s.ctl.intreq ||| (1#16 <<< n), ipl := interruptLevel (s.ctl.intreq ||| (1#16 <<< n)) s.ctl.intena } := rfl
@[simp] theorem raiseIrq_copper (n : Nat) : (raiseIrq n s).copper = s.copper := rfl
@[simp] theorem raiseIrq_blitter (n : Nat) : (raiseIrq n s).blitter = s.blitter := rfl
@[simp] theorem raiseIrq_window (n : Nat) : (raiseIrq n s).window = s.window := rfl
@[simp] theorem raiseIrq_bpl (n : Nat) : (raiseIrq n s).bpl = s.bpl := rfl
@[simp] theorem raiseIrq_sprites (n : Nat) : (raiseIrq n s).sprites = s.sprites := rfl
@[simp] theorem raiseIrq_denise (n : Nat) : (raiseIrq n s).denise = s.denise := rfl
@[simp] theorem raiseIrq_frames (n : Nat) : (raiseIrq n s).frames = s.frames := rfl
@[simp] theorem raiseIrq_mem (n : Nat) : (raiseIrq n s).mem = s.mem := rfl
@[simp] theorem raiseIrq_records (n : Nat) : (raiseIrq n s).records = s.records := rfl
@[simp] theorem raiseIrq_cpu (n : Nat) : (raiseIrq n s).cpu = s.cpu := rfl
@[simp] theorem raiseIrq_ext (n : Nat) : (raiseIrq n s).ext = s.ext := rfl

@[simp] theorem recordViolation_cfg (v : Violation) : (recordViolation v s).cfg = s.cfg := rfl
@[simp] theorem recordViolation_powered (v : Violation) : (recordViolation v s).powered = s.powered := rfl
@[simp] theorem recordViolation_now (v : Violation) : (recordViolation v s).now = s.now := rfl
@[simp] theorem recordViolation_beam (v : Violation) : (recordViolation v s).beam = s.beam := rfl
@[simp] theorem recordViolation_bus (v : Violation) : (recordViolation v s).bus = s.bus := rfl
@[simp] theorem recordViolation_events (v : Violation) : (recordViolation v s).events = s.events := rfl
@[simp] theorem recordViolation_pending (v : Violation) : (recordViolation v s).pending = s.pending := rfl
@[simp] theorem recordViolation_ctl (v : Violation) : (recordViolation v s).ctl = s.ctl := rfl
@[simp] theorem recordViolation_copper (v : Violation) : (recordViolation v s).copper = s.copper := rfl
@[simp] theorem recordViolation_blitter (v : Violation) : (recordViolation v s).blitter = s.blitter := rfl
@[simp] theorem recordViolation_window (v : Violation) : (recordViolation v s).window = s.window := rfl
@[simp] theorem recordViolation_bpl (v : Violation) : (recordViolation v s).bpl = s.bpl := rfl
@[simp] theorem recordViolation_sprites (v : Violation) : (recordViolation v s).sprites = s.sprites := rfl
@[simp] theorem recordViolation_denise (v : Violation) : (recordViolation v s).denise = s.denise := rfl
@[simp] theorem recordViolation_frames (v : Violation) : (recordViolation v s).frames = s.frames := rfl
@[simp] theorem recordViolation_mem (v : Violation) : (recordViolation v s).mem = s.mem := rfl
@[simp] theorem recordViolation_records (v : Violation) :
    (recordViolation v s).records = { s.records with violations := s.records.violations + 1, lastViolation := some v } := rfl
@[simp] theorem recordViolation_cpu (v : Violation) : (recordViolation v s).cpu = s.cpu := rfl
@[simp] theorem recordViolation_ext (v : Violation) : (recordViolation v s).ext = s.ext := rfl

@[simp] theorem recordUnimplemented_cfg (n : Nat) : (recordUnimplemented n s).cfg = s.cfg := rfl
@[simp] theorem recordUnimplemented_powered (n : Nat) : (recordUnimplemented n s).powered = s.powered := rfl
@[simp] theorem recordUnimplemented_now (n : Nat) : (recordUnimplemented n s).now = s.now := rfl
@[simp] theorem recordUnimplemented_beam (n : Nat) : (recordUnimplemented n s).beam = s.beam := rfl
@[simp] theorem recordUnimplemented_bus (n : Nat) : (recordUnimplemented n s).bus = s.bus := rfl
@[simp] theorem recordUnimplemented_events (n : Nat) : (recordUnimplemented n s).events = s.events := rfl
@[simp] theorem recordUnimplemented_pending (n : Nat) : (recordUnimplemented n s).pending = s.pending := rfl
@[simp] theorem recordUnimplemented_ctl (n : Nat) : (recordUnimplemented n s).ctl = s.ctl := rfl
@[simp] theorem recordUnimplemented_copper (n : Nat) : (recordUnimplemented n s).copper = s.copper := rfl
@[simp] theorem recordUnimplemented_blitter (n : Nat) : (recordUnimplemented n s).blitter = s.blitter := rfl
@[simp] theorem recordUnimplemented_window (n : Nat) : (recordUnimplemented n s).window = s.window := rfl
@[simp] theorem recordUnimplemented_bpl (n : Nat) : (recordUnimplemented n s).bpl = s.bpl := rfl
@[simp] theorem recordUnimplemented_sprites (n : Nat) : (recordUnimplemented n s).sprites = s.sprites := rfl
@[simp] theorem recordUnimplemented_denise (n : Nat) : (recordUnimplemented n s).denise = s.denise := rfl
@[simp] theorem recordUnimplemented_frames (n : Nat) : (recordUnimplemented n s).frames = s.frames := rfl
@[simp] theorem recordUnimplemented_mem (n : Nat) : (recordUnimplemented n s).mem = s.mem := rfl
@[simp] theorem recordUnimplemented_records (n : Nat) :
    (recordUnimplemented n s).records = { s.records with unimplemented := insertOffset s.records.unimplemented n } := rfl
@[simp] theorem recordUnimplemented_cpu (n : Nat) : (recordUnimplemented n s).cpu = s.cpu := rfl
@[simp] theorem recordUnimplemented_ext (n : Nat) : (recordUnimplemented n s).ext = s.ext := rfl

@[simp] theorem forward_cfg (f : Forward) : (forward f s).cfg = s.cfg := rfl
@[simp] theorem forward_powered (f : Forward) : (forward f s).powered = s.powered := rfl
@[simp] theorem forward_now (f : Forward) : (forward f s).now = s.now := rfl
@[simp] theorem forward_beam (f : Forward) : (forward f s).beam = s.beam := rfl
@[simp] theorem forward_bus (f : Forward) : (forward f s).bus = s.bus := rfl
@[simp] theorem forward_events (f : Forward) : (forward f s).events = s.events := rfl
@[simp] theorem forward_pending (f : Forward) : (forward f s).pending = s.pending := rfl
@[simp] theorem forward_ctl (f : Forward) : (forward f s).ctl = s.ctl := rfl
@[simp] theorem forward_copper (f : Forward) : (forward f s).copper = s.copper := rfl
@[simp] theorem forward_blitter (f : Forward) : (forward f s).blitter = s.blitter := rfl
@[simp] theorem forward_window (f : Forward) : (forward f s).window = s.window := rfl
@[simp] theorem forward_bpl (f : Forward) : (forward f s).bpl = s.bpl := rfl
@[simp] theorem forward_sprites (f : Forward) : (forward f s).sprites = s.sprites := rfl
@[simp] theorem forward_denise (f : Forward) : (forward f s).denise = s.denise := rfl
@[simp] theorem forward_frames (f : Forward) : (forward f s).frames = s.frames := rfl
@[simp] theorem forward_mem (f : Forward) : (forward f s).mem = s.mem := rfl
@[simp] theorem forward_records (f : Forward) : (forward f s).records = s.records := rfl
@[simp] theorem forward_cpu (f : Forward) : (forward f s).cpu = s.cpu := rfl
@[simp] theorem forward_ext (f : Forward) :
    (forward f s).ext = { s.ext with forwards := s.ext.forwards ++ [f] } := rfl

@[simp] theorem notify_cfg (m : Message) : (notify m s).cfg = s.cfg := rfl
@[simp] theorem notify_powered (m : Message) : (notify m s).powered = s.powered := rfl
@[simp] theorem notify_now (m : Message) : (notify m s).now = s.now := rfl
@[simp] theorem notify_beam (m : Message) : (notify m s).beam = s.beam := rfl
@[simp] theorem notify_bus (m : Message) : (notify m s).bus = s.bus := rfl
@[simp] theorem notify_events (m : Message) : (notify m s).events = s.events := rfl
@[simp] theorem notify_pending (m : Message) : (notify m s).pending = s.pending := rfl
@[simp] theorem notify_ctl (m : Message) : (notify m s).ctl = s.ctl := rfl
@[simp] theorem notify_copper (m : Message) : (notify m s).copper = s.copper := rfl
@[simp] theorem notify_blitter (m : Message) : (notify m s).blitter = s.blitter := rfl
@[simp] theorem notify_window (m : Message) : (notify m s).window = s.window := rfl
@[simp] theorem notify_bpl (m : Message) : (notify m s).bpl = s.bpl := rfl
@[simp] theorem notify_sprites (m : Message) : (notify m s).sprites = s.sprites := rfl
@[simp] theorem notify_denise (m : Message) : (notify m s).denise = s.denise := rfl
@[simp] theorem notify_frames (m : Message) : (notify m s).frames = s.frames := rfl
@[simp] theorem notify_mem (m : Message) : (notify m s).mem = s.mem := rfl
@[simp] theorem notify_records (m : Message) : (notify m s).records = s.records := rfl
@[simp] theorem notify_cpu (m : Message) : (notify m s).cpu = s.cpu := rfl
@[simp] theorem notify_ext (m : Message) :
    (notify m s).ext = { s.ext with messages := s.ext.messages ++ [m] } := rfl

@[simp] theorem countDraw_cfg : (countDraw s).cfg = s.cfg := rfl
@[simp] theorem countDraw_powered : (countDraw s).powered = s.powered := rfl
@[simp] theorem countDraw_now : (countDraw s).now = s.now := rfl
@[simp] theorem countDraw_beam : (countDraw s).beam = s.beam := rfl
@[simp] theorem countDraw_bus : (countDraw s).bus = s.bus := rfl
@[simp] theorem countDraw_events : (countDraw s).events = s.events := rfl
@[simp] theorem countDraw_pending : (countDraw s).pending = s.pending := rfl
@[simp] theorem countDraw_ctl : (countDraw s).ctl = s.ctl := rfl
@[simp] theorem countDraw_copper : (countDraw s).copper = s.copper := rfl
@[simp] theorem countDraw_blitter : (countDraw s).blitter = s.blitter := rfl
@[simp] theorem countDraw_window : (countDraw s).window = s.window := rfl
@[simp] theorem countDraw_bpl : (countDraw s).bpl = s.bpl := rfl
@[simp] theorem countDraw_sprites : (countDraw s).sprites = s.sprites := rfl
@[simp] theorem countDraw_denise : (countDraw s).denise = s.denise := rfl
@[simp] theorem countDraw_frames : (countDraw s).frames = s.frames := rfl
@[simp] theorem countDraw_mem : (countDraw s).mem = s.mem := rfl
@[simp] theorem countDraw_records : (countDraw s).records = s.records := rfl
@[simp] theorem countDraw_cpu : (countDraw s).cpu = s.cpu := rfl
@[simp] theorem countDraw_ext :
    (countDraw s).ext = { s.ext with draws := s.ext.draws + 1 } := rfl

@[simp] theorem setReadData_cfg (v : Long) : (setReadData v s).cfg = s.cfg := rfl
@[simp] theorem setReadData_powered (v : Long) : (setReadData v s).powered = s.powered := rfl
@[simp] theorem setReadData_now (v : Long) : (setReadData v s).now = s.now := rfl
@[simp] theorem setReadData_beam (v : Long) : (setReadData v s).beam = s.beam := rfl
@[simp] theorem setReadData_bus (v : Long) : (setReadData v s).bus = s.bus := rfl
@[simp] theorem setReadData_events (v : Long) : (setReadData v s).events = s.events := rfl
@[simp] theorem setReadData_pending (v : Long) : (setReadData v s).pending = s.pending := rfl
@[simp] theorem setReadData_ctl (v : Long) : (setReadData v s).ctl = s.ctl := rfl
@[simp] theorem setReadData_copper (v : Long) : (setReadData v s).copper = s.copper := rfl
@[simp] theorem setReadData_blitter (v : Long) : (setReadData v s).blitter = s.blitter := rfl
@[simp] theorem setReadData_window (v : Long) : (setReadData v s).window = s.window := rfl
@[simp] theorem setReadData_bpl (v : Long) : (setReadData v s).bpl = s.bpl := rfl
@[simp] theorem setReadData_sprites (v : Long) : (setReadData v s).sprites = s.sprites := rfl
@[simp] theorem setReadData_denise (v : Long) : (setReadData v s).denise = s.denise := rfl
@[simp] theorem setReadData_frames (v : Long) : (setReadData v s).frames = s.frames := rfl
@[simp] theorem setReadData_mem (v : Long) : (setReadData v s).mem = s.mem := rfl
@[simp] theorem setReadData_records (v : Long) : (setReadData v s).records = s.records := rfl
@[simp] theorem setReadData_cpu (v : Long) :
    (setReadData v s).cpu = { s.cpu with readData := v } := rfl
@[simp] theorem setReadData_ext (v : Long) : (setReadData v s).ext = s.ext := rfl

@[simp] theorem withBlitter_cfg (f : Blitter → Blitter) : (withBlitter f s).cfg = s.cfg := rfl
@[simp] theorem withBlitter_powered (f : Blitter → Blitter) : (withBlitter f s).powered = s.powered := rfl
@[simp] theorem withBlitter_now (f : Blitter → Blitter) : (withBlitter f s).now = s.now := rfl
@[simp] theorem withBlitter_beam (f : Blitter → Blitter) : (withBlitter f s).beam = s.beam := rfl
@[simp] theorem withBlitter_bus (f : Blitter → Blitter) : (withBlitter f s).bus = s.bus := rfl
@[simp] theorem withBlitter_events (f : Blitter → Blitter) : (withBlitter f s).events = s.events := rfl
@[simp] theorem withBlitter_pending (f : Blitter → Blitter) : (withBlitter f s).pending = s.pending := rfl
@[simp] theorem withBlitter_ctl (f : Blitter → Blitter) : (withBlitter f s).ctl = s.ctl := rfl
@[simp] theorem withBlitter_copper (f : Blitter → Blitter) : (withBlitter f s).copper = s.copper := rfl
@[simp] theorem withBlitter_blitter (f : Blitter → Blitter) :
    (withBlitter f s).blitter = f s.blitter := rfl
@[simp] theorem withBlitter_window (f : Blitter → Blitter) : (withBlitter f s).window = s.window := rfl
@[simp] theorem withBlitter_bpl (f : Blitter → Blitter) : (withBlitter f s).bpl = s.bpl := rfl
@[simp] theorem withBlitter_sprites (f : Blitter → Blitter) : (withBlitter f s).sprites = s.sprites := rfl
@[simp] theorem withBlitter_denise (f : Blitter → Blitter) : (withBlitter f s).denise = s.denise := rfl
@[simp] theorem withBlitter_frames (f : Blitter → Blitter) : (withBlitter f s).frames = s.frames := rfl
@[simp] theorem withBlitter_mem (f : Blitter → Blitter) : (withBlitter f s).mem = s.mem := rfl
@[simp] theorem withBlitter_records (f : Blitter → Blitter) : (withBlitter f s).records = s.records := rfl
@[simp] theorem withBlitter_cpu (f : Blitter → Blitter) : (withBlitter f s).cpu = s.cpu := rfl
@[simp] theorem withBlitter_ext (f : Blitter → Blitter) : (withBlitter f s).ext = s.ext := rfl

@[simp] theorem withCopper_cfg (f : Copper → Copper) : (withCopper f s).cfg = s.cfg := rfl
@[simp] theorem withCopper_powered (f : Copper → Copper) : (withCopper f s).powered = s.powered := rfl
@[simp] theorem withCopper_now (f : Copper → Copper) : (withCopper f s).now = s.now := rfl
@[simp] theorem withCopper_beam (f : Copper → Copper) : (withCopper f s).beam = s.beam := rfl
@[simp] theorem withCopper_bus (f : Copper → Copper) : (withCopper f s).bus = s.bus := rfl
@[simp] theorem withCopper_events (f : Copper → Copper) : (withCopper f s).events = s.events := rfl
@[simp] theorem withCopper_pending (f : Copper → Copper) : (withCopper f s).pending = s.pending := rfl
@[simp] theorem withCopper_ctl (f : Copper → Copper) : (withCopper f s).ctl = s.ctl := rfl
@[simp] theorem withCopper_copper (f : Copper → Copper) :
    (withCopper f s).copper = f s.copper := rfl
@[simp] theorem withCopper_blitter (f : Copper → Copper) : (withCopper f s).blitter = s.blitter := rfl
@[simp] theorem withCopper_window (f : Copper → Copper) : (withCopper f s).window = s.window := rfl
@[simp] theorem withCopper_bpl (f : Copper → Copper) : (withCopper f s).bpl = s.bpl := rfl
@[simp] theorem withCopper_sprites (f : Copper → Copper) : (withCopper f s).sprites = s.sprites := rfl
@[simp] theorem withCopper_denise (f : Copper → Copper) : (withCopper f s).denise = s.denise := rfl
@[simp] theorem withCopper_frames (f : Copper → Copper) : (withCopper f s).frames = s.frames := rfl
@[simp] theorem withCopper_mem (f : Copper → Copper) : (withCopper f s).mem = s.mem := rfl
@[simp] theorem withCopper_records (f : Copper → Copper) : (withCopper f s).records = s.records := rfl
@[simp] theorem withCopper_cpu (f : Copper → Copper) : (withCopper f s).cpu = s.cpu := rfl
@[simp] theorem withCopper_ext (f : Copper → Copper) : (withCopper f s).ext = s.ext := rfl

@[simp] theorem withWindow_cfg (f : Window → Window) : (withWindow f s).cfg = s.cfg := rfl
@[simp] theorem withWindow_powered (f : Window → Window) : (withWindow f s).powered = s.powered := rfl
@[simp] theorem withWindow_now (f : Window → Window) : (withWindow f s).now = s.now := rfl
@[simp] theorem withWindow_beam (f : Window → Window) : (withWindow f s).beam = s.beam := rfl
@[simp] theorem withWindow_bus (f : Window → Window) : (withWindow f s).bus = s.bus := rfl
@[simp] theorem withWindow_events (f : Window → Window) : (withWindow f s).events = s.events := rfl
@[simp] theorem withWindow_pending (f : Window → Window) : (withWindow f s).pending = s.pending := rfl
@[simp] theorem withWindow_ctl (f : Window → Window) : (withWindow f s).ctl = s.ctl := rfl
@[simp] theorem withWindow_copper (f : Window → Window) : (withWindow f s).copper = s.copper := rfl
@[simp] theorem withWindow_blitter (f : Window → Window) : (withWindow f s).blitter = s.blitter := rfl
@[simp] theorem withWindow_window (f : Window → Window) :
    (withWindow f s).window = f s.window := rfl
@[simp] theorem withWindow_bpl (f : Window → Window) : (withWindow f s).bpl = s.bpl := rfl
@[simp] theorem withWindow_sprites (f : Window → Window) : (withWindow f s).sprites = s.sprites := rfl
@[simp] theorem withWindow_denise (f : Window → Window) : (withWindow f s).denise = s.denise := rfl
@[simp] theorem withWindow_frames (f : Window → Window) : (withWindow f s).frames = s.frames := rfl
@[simp] theorem withWindow_mem (f : Window → Window) : (withWindow f s).mem = s.mem := rfl
@[simp] theorem withWindow_records (f : Window → Window) : (withWindow f s).records = s.records := rfl
@[simp] theorem withWindow_cpu (f : Window → Window) : (withWindow f s).cpu = s.cpu := rfl
@[simp] theorem withWindow_ext (f : Window → Window) : (withWindow f s).ext = s.ext := rfl

@[simp] theorem withBpl_cfg (f : Bitplanes → Bitplanes) : (withBpl f s).cfg = s.cfg := rfl
@[simp] theorem withBpl_powered (f : Bitplanes → Bitplanes) : (withBpl f s).powered = s.powered := rfl
@[simp] theorem withBpl_now (f : Bitplanes → Bitplanes) : (withBpl f s).now = s.now := rfl
@[simp] theorem withBpl_beam (f : Bitplanes → Bitplanes) : (withBpl f s).beam = s.beam := rfl
@[simp] theorem withBpl_bus (f : Bitplanes → Bitplanes) : (withBpl f s).bus = s.bus := rfl
@[simp] theorem withBpl_events (f : Bitplanes → Bitplanes) : (withBpl f s).events = s.events := rfl
@[simp] theorem withBpl_pending (f : Bitplanes → Bitplanes) : (withBpl f s).pending = s.pending := rfl
@[simp] theorem withBpl_ctl (f : Bitplanes → Bitplanes) : (withBpl f s).ctl = s.ctl := rfl
@[simp] theorem withBpl_copper (f : Bitplanes → Bitplanes) : (withBpl f s).copper = s.copper := rfl
@[simp] theorem withBpl_blitter (f : Bitplanes → Bitplanes) : (withBpl f s).blitter = s.blitter := rfl
@[simp] theorem withBpl_window (f : Bitplanes → Bitplanes) : (withBpl f s).window = s.window := rfl
@[simp] theorem withBpl_bpl (f : Bitplanes → Bitplanes) :
    (withBpl f s).bpl = f s.bpl := rfl
@[simp] theorem withBpl_sprites (f : Bitplanes → Bitplanes) : (withBpl f s).sprites = s.sprites := rfl
@[simp] theorem withBpl_denise (f : Bitplanes → Bitplanes) : (withBpl f s).denise = s.denise := rfl
@[simp] theorem withBpl_frames (f : Bitplanes → Bitplanes) : (withBpl f s).frames = s.frames := rfl
@[simp] theorem withBpl_mem (f : Bitplanes → Bitplanes) : (withBpl f s).mem = s.mem := rfl
@[simp] theorem withBpl_records (f : Bitplanes → Bitplanes) : (withBpl f s).records = s.records := rfl
@[simp] theorem withBpl_cpu (f : Bitplanes → Bitplanes) : (withBpl f s).cpu = s.cpu := rfl
@[simp] theorem withBpl_ext (f : Bitplanes → Bitplanes) : (withBpl f s).ext = s.ext := rfl

@[simp] theorem withSprite_cfg (n : Fin 8) (f : Sprite → Sprite) : (withSprite n f s).cfg = s.cfg := rfl
@[simp] theorem withSprite_powered (n : Fin 8) (f : Sprite → Sprite) : (withSprite n f s).powered = s.powered := rfl
@[simp] theorem withSprite_now (n : Fin 8) (f : Sprite → Sprite) : (withSprite n f s).now = s.now := rfl
@[simp] theorem withSprite_beam (n : Fin 8) (f : Sprite → Sprite) : (withSprite n f s).beam = s.beam := rfl
@[simp] theorem withSprite_bus (n : Fin 8) (f : Sprite → Sprite) : (withSprite n f s).bus = s.bus := rfl
@[simp] theorem withSprite_events (n : Fin 8) (f : Sprite → Sprite) : (withSprite n f s).events = s.events := rfl
@[simp] theorem withSprite_pending (n : Fin 8) (f : Sprite → Sprite) : (withSprite n f s).pending = s.pending := rfl
@[simp] theorem withSprite_ctl (n : Fin 8) (f : Sprite → Sprite) : (withSprite n f s).ctl = s.ctl := rfl
@[simp] theorem withSprite_copper (n : Fin 8) (f : Sprite → Sprite) : (withSprite n f s).copper = s.copper := rfl
@[simp] theorem withSprite_blitter (n : Fin 8) (f : Sprite → Sprite) : (withSprite n f s).blitter = s.blitter := rfl
@[simp] theorem withSprite_window (n : Fin 8) (f : Sprite → Sprite) : (withSprite n f s).window = s.window := rfl
@[simp] theorem withSprite_bpl (n : Fin 8) (f : Sprite → Sprite) : (withSprite n f s).bpl = s.bpl := rfl
@[simp] theorem withSprite_sprites (n : Fin 8) (f : Sprite → Sprite) :
    (withSprite n f s).sprites = s.sprites.set n (f s.sprites[n]) := rfl
@[simp] theorem withSprite_denise (n : Fin 8) (f : Sprite → Sprite) : (withSprite n f s).denise = s.denise := rfl
@[simp] theorem withSprite_frames (n : Fin 8) (f : Sprite → Sprite) : (withSprite n f s).frames = s.frames := rfl
@[simp] theorem withSprite_mem (n : Fin 8) (f : Sprite → Sprite) : (withSprite n f s).mem = s.mem := rfl
@[simp] theorem withSprite_records (n : Fin 8) (f : Sprite → Sprite) : (withSprite n f s).records = s.records := rfl
@[simp] theorem withSprite_cpu (n : Fin 8) (f : Sprite → Sprite) : (withSprite n f s).cpu = s.cpu := rfl
@[simp] theorem withSprite_ext (n : Fin 8) (f : Sprite → Sprite) : (withSprite n f s).ext = s.ext := rfl

@[simp] theorem withDenise_cfg (f : Denise → Denise) : (withDenise f s).cfg = s.cfg := rfl
@[simp] theorem withDenise_powered (f : Denise → Denise) : (withDenise f s).powered = s.powered := rfl
@[simp] theorem withDenise_now (f : Denise → Denise) : (withDenise f s).now = s.now := rfl
@[simp] theorem withDenise_beam (f : Denise → Denise) : (withDenise f s).beam = s.beam := rfl
@[simp] theorem withDenise_bus (f : Denise → Denise) : (withDenise f s).bus = s.bus := rfl
@[simp] theorem withDenise_events (f : Denise → Denise) : (withDenise f s).events = s.events := rfl
@[simp] theorem withDenise_pending (f : Denise → Denise) : (withDenise f s).pending = s.pending := rfl
@[simp] theorem withDenise_ctl (f : Denise → Denise) : (withDenise f s).ctl = s.ctl := rfl
@[simp] theorem withDenise_copper (f : Denise → Denise) : (withDenise f s).copper = s.copper := rfl
@[simp] theorem withDenise_blitter (f : Denise → Denise) : (withDenise f s).blitter = s.blitter := rfl
@[simp] theorem withDenise_window (f : Denise → Denise) : (withDenise f s).window = s.window := rfl
@[simp] theorem withDenise_bpl (f : Denise → Denise) : (withDenise f s).bpl = s.bpl := rfl
@[simp] theorem withDenise_sprites (f : Denise → Denise) : (withDenise f s).sprites = s.sprites := rfl
@[simp] theorem withDenise_denise (f : Denise → Denise) :
    (withDenise f s).denise = f s.denise := rfl
@[simp] theorem withDenise_frames (f : Denise → Denise) : (withDenise f s).frames = s.frames := rfl
@[simp] theorem withDenise_mem (f : Denise → Denise) : (withDenise f s).mem = s.mem := rfl
@[simp] theorem withDenise_records (f : Denise → Denise) : (withDenise f s).records = s.records := rfl
@[simp] theorem withDenise_cpu (f : Denise → Denise) : (withDenise f s).cpu = s.cpu := rfl
@[simp] theorem withDenise_ext (f : Denise → Denise) : (withDenise f s).ext = s.ext := rfl

@[simp] theorem withCtl_cfg (f : Control → Control) : (withCtl f s).cfg = s.cfg := rfl
@[simp] theorem withCtl_powered (f : Control → Control) : (withCtl f s).powered = s.powered := rfl
@[simp] theorem withCtl_now (f : Control → Control) : (withCtl f s).now = s.now := rfl
@[simp] theorem withCtl_beam (f : Control → Control) : (withCtl f s).beam = s.beam := rfl
@[simp] theorem withCtl_bus (f : Control → Control) : (withCtl f s).bus = s.bus := rfl
@[simp] theorem withCtl_events (f : Control → Control) : (withCtl f s).events = s.events := rfl
@[simp] theorem withCtl_pending (f : Control → Control) : (withCtl f s).pending = s.pending := rfl
@[simp] theorem withCtl_ctl (f : Control → Control) :
    (withCtl f s).ctl = f s.ctl := rfl
@[simp] theorem withCtl_copper (f : Control → Control) : (withCtl f s).copper = s.copper := rfl
@[simp] theorem withCtl_blitter (f : Control → Control) : (withCtl f s).blitter = s.blitter := rfl
@[simp] theorem withCtl_window (f : Control → Control) : (withCtl f s).window = s.window := rfl
@[simp] theorem withCtl_bpl (f : Control → Control) : (withCtl f s).bpl = s.bpl := rfl
@[simp] theorem withCtl_sprites (f : Control → Control) : (withCtl f s).sprites = s.sprites := rfl
@[simp] theorem withCtl_denise (f : Control → Control) : (withCtl f s).denise = s.denise := rfl
@[simp] theorem withCtl_frames (f : Control → Control) : (withCtl f s).frames = s.frames := rfl
@[simp] theorem withCtl_mem (f : Control → Control) : (withCtl f s).mem = s.mem := rfl
@[simp] theorem withCtl_records (f : Control → Control) : (withCtl f s).records = s.records := rfl
@[simp] theorem withCtl_cpu (f : Control → Control) : (withCtl f s).cpu = s.cpu := rfl
@[simp] theorem withCtl_ext (f : Control → Control) : (withCtl f s).ext = s.ext := rfl

/-- Sequencing after a next state. -/
@[simp] theorem andThen_next (f : State → Result) : andThen (.next s) f = f s := rfl

/-- Sequencing after a fault. -/
@[simp] theorem andThen_fault (e : Fault) (f : State → Result) : andThen (.fault e) f = .fault e := rfl

/-- Sequencing after a refusal. -/
@[simp] theorem andThen_refused (e : Refusal) (f : State → Result) : andThen (.refused e) f = .refused e := rfl

/-- A sequence answers next only through a next state of its first part. -/
theorem andThen_eq_next (r : Result) (f : State → Result) (t : State) :
    andThen r f = .next t ↔ ∃ u, r = .next u ∧ f u = .next t := by
  cases r <;> simp [andThen]

end Sys2Proof.Machine
end

