-- ==== Sys2Proof/Laws/Exec.lean ====
section
/-! SUPPORT. Once, what an instruction can do: the shared operation that each meaning is, the shapes of a
register write, and the parts of the state that the Blitter's operations leave alone. -/

namespace Sys2Proof.Machine

/-- Every word of the default micro-program table is well-formed (rules R158, R321). -/
theorem defaultBltProgram_wellFormed : ∀ p ∈ defaultBltProgram, ∀ w ∈ p, microWellFormed w = true := by
  have h : (defaultBltProgram.all (fun p => p.all microWellFormed)) = true := by decide +kernel
  intro p hp w hw
  exact List.all_eq_true.1 (List.all_eq_true.1 h p hp) w hw

/-- Every instruction is one of the shared operations: a Copper instruction, a micro-instruction, a program
selection, the line program, the fast path, or a register operation. -/
theorem exec_cases (i : Instr) (s : State) :
    (∃ ra data, exec i s = execCopperMove ra data s) ∨
    (∃ vp hp bfd ve he, exec i s = execCopperWait vp hp bfd ve he s) ∨
    (∃ vp hp bfd ve he, exec i s = execCopperSkip vp hp bfd ve he s) ∨
    (∃ w, exec i s = .next (executeMicro w s)) ∨
    (∃ index, exec i s = .next (selectProgram index s)) ∨
    exec i s = .next (selectLine s) ∨ exec i s = .next (fastBlit s) ∨
    (∃ off op, exec i s = .next (accessRegister off op s)) := by
  cases i <;>
    first
    | exact .inr (.inr (.inr (.inr (.inr (.inr (.inr ⟨_, _, rfl⟩))))))
    | exact .inr (.inr (.inr (.inr (.inl ⟨_, rfl⟩))))
    | exact .inr (.inr (.inr (.inl ⟨_, rfl⟩)))
    | exact .inl ⟨_, _, rfl⟩
    | exact .inr (.inl ⟨_, _, _, _, _, rfl⟩)
    | exact .inr (.inr (.inl ⟨_, _, _, _, _, rfl⟩))
    | exact .inr (.inr (.inr (.inr (.inr (.inl rfl)))))
    | exact .inr (.inr (.inr (.inr (.inr (.inr (.inl rfl))))))

/-- An instruction always answers a next state. -/
theorem exec_answers (i : Instr) (s : State) : ∃ t, exec i s = .next t := by
  obtain ⟨ra, data, h⟩ | ⟨_, _, _, _, _, h⟩ | ⟨_, _, _, _, _, h⟩ | ⟨_, h⟩ | ⟨_, h⟩ | h | h | ⟨_, _, h⟩ :=
    exec_cases i s
  · rw [h]; unfold execCopperMove; split <;> exact ⟨_, rfl⟩
  all_goals exact ⟨_, h⟩

/-- The shapes of a register write (rule R461). -/
theorem registerWrite_cases (off : Nat) (v : Word) (s : State) :
    registerWrite off v s = s ∨ registerWrite off v s = recordUnimplemented off s ∨
    registerWrite off v s = forward (.regWrite off v) s ∨ registerWrite off v s = enqueueWrite off v s ∨
    registerWrite off v s = applyReg off v s := by
  unfold registerWrite
  split
  · exact .inl rfl
  · exact .inr (.inl rfl)
  · exact .inr (.inr (.inl rfl))
  · exact .inr (.inr (.inl rfl))
  · exact .inr (.inl rfl)
  · split
    · exact .inr (.inr (.inr (.inl rfl)))
    · exact .inr (.inr (.inr (.inr rfl)))

/-- What the Blitter's data actions can change: Chip RAM, the bus record and the Blitter. -/
def BlitterOnly (s t : State) : Prop :=
  ∃ chip line b, t = { s with
    mem := { s.mem with chip := chip }, bus := { s.bus with line := line }, blitter := b }

/-- Nothing changed is a case of it. -/
theorem BlitterOnly.refl (s : State) : BlitterOnly s s := ⟨s.mem.chip, s.bus.line, s.blitter, rfl⟩

/-- One after the other. -/
theorem BlitterOnly.trans {s t u : State} (h : BlitterOnly s t) (k : BlitterOnly t u) : BlitterOnly s u := by
  obtain ⟨c, l, b, rfl⟩ := h
  obtain ⟨c', l', b', rfl⟩ := k
  exact ⟨c', l', b', rfl⟩

/-- An update of the Blitter. -/
theorem blitterOnly_withBlitter (f : Blitter → Blitter) (s : State) : BlitterOnly s (withBlitter f s) :=
  ⟨s.mem.chip, s.bus.line, f s.blitter, rfl⟩

/-- A Chip RAM write. -/
theorem blitterOnly_chipWrite16 (p : Ptr) (v : Word) (s : State) : BlitterOnly s (chipWrite16 p v s) :=
  ⟨_, _, s.blitter, rfl⟩

/-- The bus record of a Chip RAM read. -/
theorem blitterOnly_chipFetch (p : Ptr) (s : State) : BlitterOnly s (chipFetch p s) :=
  ⟨s.mem.chip, _, s.blitter, rfl⟩

/-- `WRITE_D`. -/
theorem blitterOnly_writeD (s : State) : BlitterOnly s (writeD s) := by
  unfold writeD
  split
  · exact .refl s
  · exact (blitterOnly_chipWrite16 _ _ s).trans (blitterOnly_withBlitter _ _)

/-- An action done when the word has it. -/
theorem blitterOnly_whenAction {f : State → State} (h : ∀ s, BlitterOnly s (f s)) (w : Word) (a : MicroAction)
    (s : State) : BlitterOnly s (whenAction w a f s) := by
  unfold whenAction
  split
  · exact h s
  · exact .refl s

/-- The transfer of a word. -/
theorem blitterOnly_dataTransfers (w : Word) (s : State) : BlitterOnly s (dataTransfers w s) := by
  have hA : ∀ s, BlitterOnly s (fetchA s) :=
    fun s => (blitterOnly_chipFetch _ s).trans (blitterOnly_withBlitter _ _)
  have hB : ∀ s, BlitterOnly s (fetchB s) :=
    fun s => (blitterOnly_chipFetch _ s).trans (blitterOnly_withBlitter _ _)
  have hC : ∀ s, BlitterOnly s (fetchC s) :=
    fun s => (blitterOnly_chipFetch _ s).trans (blitterOnly_withBlitter _ _)
  exact (((blitterOnly_whenAction blitterOnly_writeD w .writeD s).trans
    (blitterOnly_whenAction hA w .fetchA _)).trans (blitterOnly_whenAction hB w .fetchB _)).trans
    (blitterOnly_whenAction hC w .fetchC _)

/-- The data actions that need no bus change the Blitter alone. -/
theorem dataHolds_changes (w : Word) (s : State) : ∃ f, dataHolds w s = withBlitter f s := by
  have hold : ∀ (a : MicroAction) (g : Blitter → Blitter) (s : State),
      ∃ f, whenAction w a (withBlitter g) s = withBlitter f s := by
    intro a g s
    unfold whenAction
    split
    · exact ⟨g, rfl⟩
    · exact ⟨id, rfl⟩
  unfold dataHolds
  dsimp only
  obtain ⟨fA, hA⟩ := hold .holdA holdA s
  rw [hA]
  obtain ⟨fB, hB⟩ := hold .holdB holdB (withBlitter fA s)
  rw [hB]
  obtain ⟨fD, hD⟩ := hold .holdD (holdD (hasAction w .fill)) (withBlitter fB (withBlitter fA s))
  rw [hD]
  split
  · exact ⟨fun b => blitRepeat (fD (fB (fA b))), rfl⟩
  · exact ⟨fun b => { fD (fB (fA b)) with pc := (fD (fB (fA b))).pc + 1 }, rfl⟩

/-- The data actions of a word. -/
theorem blitterOnly_dataActions (w : Word) (s : State) : BlitterOnly s (dataActions w s) := by
  obtain ⟨f, h⟩ := dataHolds_changes w (dataTransfers w s)
  unfold dataActions
  rw [h]
  exact (blitterOnly_dataTransfers w s).trans (blitterOnly_withBlitter f _)

/-- The transfer of a micro-instruction changes Chip RAM, the bus record and the Blitter, nothing else. -/
theorem blitterOnly_microTransfer (w : Word) (s : State) : BlitterOnly s (microTransfer w s) := by
  unfold microTransfer
  split
  · exact BlitterOnly.trans ⟨s.mem.chip, _, s.blitter, rfl⟩ (blitterOnly_dataTransfers w _)
  · exact blitterOnly_dataTransfers w s

/-- The rest of a micro-instruction changes the Blitter, and with `BLTDONE` the request bits and the level. -/
theorem microActions_changes (w : Word) (s : State) :
    ∃ b, microActions w s = { s with
      blitter := b, ctl := if hasAction w .bltdone then (raiseIrq irqBlit s).ctl else s.ctl } := by
  obtain ⟨f, h⟩ := dataHolds_changes w s
  unfold microActions whenAction
  rw [h]
  by_cases hd : hasAction w .bltdone = true
  · simp only [hd, if_true]; exact ⟨_, rfl⟩
  · simp only [hd, Bool.false_eq_true, if_false]; exact ⟨_, rfl⟩

/-- The words of the fast path. -/
theorem blitterOnly_runData (words : List Word) (n : Nat) (s : State) : BlitterOnly s (runData words n s) := by
  induction n generalizing s with
  | zero => exact .refl s
  | succ n ih =>
    unfold runData
    split
    · exact .refl s
    · split
      · exact blitterOnly_dataActions _ s
      · exact (blitterOnly_dataActions _ s).trans (ih _)

/-- The selection of a program. -/
theorem blitterOnly_selectProgram (index : Nat) (s : State) : BlitterOnly s (selectProgram index s) :=
  ⟨s.mem.chip, s.bus.line, _, rfl⟩

/-- The fast path. -/
theorem blitterOnly_fastBlit (s : State) : BlitterOnly s (fastBlit s) :=
  (((blitterOnly_withBlitter _ s).trans (blitterOnly_runData _ _ _)).trans (blitterOnly_withBlitter _ _)).trans
    (blitterOnly_selectProgram _ _)

/-- An operation that may be left out. -/
theorem blitterOnly_if (c : Bool) {f : State → State} (h : ∀ s, BlitterOnly s (f s)) (s : State) :
    BlitterOnly s (if c then f s else s) := by
  cases c
  · exact .refl s
  · exact h s

/-- One pixel of a line. -/
theorem blitterOnly_linePixel (s : State) : BlitterOnly s (linePixel s) := by
  unfold linePixel
  dsimp only
  exact ((blitterOnly_if _ (blitterOnly_chipFetch _) s).trans
    (blitterOnly_if _ (blitterOnly_chipWrite16 _ _) _)).trans (blitterOnly_withBlitter _ _)

/-- The pixels of a line. -/
theorem blitterOnly_linePixels (n : Nat) (s : State) : BlitterOnly s (linePixels n s) := by
  induction n generalizing s with
  | zero => exact .refl s
  | succ n ih => exact (blitterOnly_linePixel s).trans (ih _)

/-- The line program. -/
theorem blitterOnly_selectLine (s : State) : BlitterOnly s (selectLine s) :=
  ⟨s.mem.chip, s.bus.line, _, rfl⟩

/-- A line. -/
theorem blitterOnly_lineBlit (s : State) : BlitterOnly s (lineBlit s) :=
  ((blitterOnly_withBlitter _ s).trans (blitterOnly_linePixels _ _)).trans (blitterOnly_selectLine _)

/-- A launch changes Chip RAM, the bus record, the Blitter and the Blitter's event, nothing else. -/
theorem launch_changes (v : Word) (s : State) :
    ∃ chip line b, launch v s = { s with
      mem := { s.mem with chip := chip }, bus := { s.bus with line := line }, blitter := b, events := (cancel slotBlitter s).events } := by
  have h : BlitterOnly (cancel slotBlitter (withBlitter (launchCounters v) s)) (launch v s) := by
    unfold launch
    dsimp only
    split
    · exact blitterOnly_lineBlit _
    · split
      · exact blitterOnly_selectProgram _ _
      · exact blitterOnly_fastBlit _
  obtain ⟨chip, line, b, h⟩ := h
  exact ⟨chip, line, b, h⟩

/-- A micro-instruction changes Chip RAM, the Blitter, the bus record of the slot, and with `BLTDONE` the
request bits and the level; nothing else. -/
theorem executeMicro_changes (w : Word) (s : State) :
    ∃ chip line b, executeMicro w s = { s with
      mem := { s.mem with chip := chip }, bus := { s.bus with line := line }, blitter := b,
      ctl := if hasAction w .bltdone then (raiseIrq irqBlit s).ctl else s.ctl } := by
  obtain ⟨chip, line, b, h⟩ := blitterOnly_microTransfer w s
  obtain ⟨b', k⟩ := microActions_changes w (microTransfer w s)
  unfold executeMicro
  rw [k, h]
  exact ⟨chip, line, b', rfl⟩

end Sys2Proof.Machine
end

