-- ==== Sys2Proof/Laws/Memory.lean ====
section
/-! SUPPORT. Storage: what a read sees after a write, and that every memory operation keeps the canonical
form. -/

namespace Sys2Proof.Machine

/-- A weaker lower bound on the offsets. -/
theorem Memory.wfFrom_mono {m : Memory} {lo lo' : Nat} (h : Memory.wfFrom lo m = true) (hl : lo' ≤ lo) :
    Memory.wfFrom lo' m = true := by
  cases m with
  | nil => rfl
  | cons c m =>
    obtain ⟨a, b⟩ := c
    simp only [Memory.wfFrom, Bool.and_eq_true, decide_eq_true_eq] at h ⊢
    exact ⟨⟨Nat.le_trans hl h.1.1, h.1.2⟩, h.2⟩

/-- Below the lower bound nothing is listed. -/
theorem Memory.byteAt_below {m : Memory} {lo n : Nat} (h : Memory.wfFrom lo m = true) (hn : n < lo) :
    Memory.byteAt m n = 0#8 := by
  induction m generalizing lo with
  | nil => rfl
  | cons c m ih =>
    obtain ⟨a, b⟩ := c
    simp only [Memory.wfFrom, Bool.and_eq_true, decide_eq_true_eq] at h
    simp only [Memory.byteAt]
    rw [if_neg (by omega)]
    exact ih h.2 (by omega)

/-- A store keeps the canonical form. -/
theorem Memory.wfFrom_setByte {m : Memory} {lo n : Nat} (v : Byte) (h : Memory.wfFrom lo m = true) (hn : lo ≤ n) :
    Memory.wfFrom lo (Memory.setByte m n v) = true := by
  induction m generalizing lo with
  | nil =>
    simp only [Memory.setByte]
    split
    · rfl
    · simp [Memory.wfFrom, *]
  | cons c m ih =>
    obtain ⟨a, b⟩ := c
    have h' := h
    simp only [Memory.wfFrom, Bool.and_eq_true, decide_eq_true_eq] at h'
    obtain ⟨⟨hlo, hb⟩, hm⟩ := h'
    simp only [Memory.setByte]
    split
    · split
      · exact h
      · simp only [Memory.wfFrom, Bool.and_eq_true, decide_eq_true_eq]
        exact ⟨⟨hn, ‹_›⟩, ⟨by omega, hb⟩, hm⟩
    · split
      · split
        · exact Memory.wfFrom_mono hm (by omega)
        · subst n
          simp only [Memory.wfFrom, Bool.and_eq_true, decide_eq_true_eq]
          exact ⟨⟨hlo, ‹_›⟩, hm⟩
      · simp only [Memory.wfFrom, Bool.and_eq_true, decide_eq_true_eq]
        exact ⟨⟨hlo, hb⟩, ih hm (by omega)⟩

/-- A read after a store (rule R117): the stored byte at its offset, the old one anywhere else. -/
theorem Memory.byteAt_setByte {m : Memory} (h : Memory.wf m = true) (n k : Nat) (v : Byte) :
    Memory.byteAt (Memory.setByte m n v) k = if k = n then v else Memory.byteAt m k := by
  have key : ∀ (m : Memory) (lo : Nat), Memory.wfFrom lo m = true →
      Memory.byteAt (Memory.setByte m n v) k = if k = n then v else Memory.byteAt m k := by
    intro m
    induction m with
    | nil =>
      intro lo _
      by_cases hv : v = 0#8 <;> by_cases hk : k = n <;>
        simp [Memory.setByte, Memory.byteAt, hv, hk]
      exact fun e => absurd e.symm hk
    | cons c m ih =>
      intro lo hw
      obtain ⟨a, b⟩ := c
      simp only [Memory.wfFrom, Bool.and_eq_true, decide_eq_true_eq] at hw
      obtain ⟨⟨_, hb⟩, hm⟩ := hw
      simp only [Memory.setByte]
      split
      · rename_i hna
        split
        · rename_i hv
          by_cases hk : k = n
          · subst hk
            have : Memory.byteAt m k = 0#8 := Memory.byteAt_below hm (by omega)
            simp only [Memory.byteAt, this, if_true]
            rw [if_neg (by omega), hv]
          · simp [hk]
        · by_cases hk : k = n
          · subst hk; simp [Memory.byteAt]
          · simp [Memory.byteAt, hk, Ne.symm hk]
      · split
        · subst n
          split
          · rename_i hv
            by_cases hk : k = a
            · subst hk
              rw [Memory.byteAt_below hm (by omega)]
              simp [hv]
            · simp [Memory.byteAt, hk, Ne.symm hk]
          · by_cases hk : k = a
            · subst hk; simp [Memory.byteAt]
            · simp [Memory.byteAt, hk, Ne.symm hk]
        · by_cases hk : k = a
          · subst hk
            have : ¬ k = n := by omega
            simp [Memory.byteAt, this]
          · simp only [Memory.byteAt, Ne.symm hk, if_false]
            exact ih _ hm
  exact key m 0 h

/-- `setByte` keeps the canonical form. -/
theorem Memory.wf_setByte {m : Memory} (h : Memory.wf m = true) (n : Nat) (v : Byte) :
    Memory.wf (m.setByte n v) = true := Memory.wfFrom_setByte v h (Nat.zero_le n)

/-- `setWord` keeps the canonical form. -/
theorem Memory.wf_setWord {m : Memory} (h : Memory.wf m = true) (n : Nat) (v : Word) :
    Memory.wf (m.setWord n v) = true := Memory.wf_setByte (Memory.wf_setByte h n _) (n + 1) _

/-- A word's bytes, joined again. -/
theorem wordOfBytes_halves (v : Word) : wordOfBytes (v.extractLsb' 8 8) (v.extractLsb' 0 8) = v := by
  apply BitVec.eq_of_getLsbD_eq
  intro i hi
  simp only [wordOfBytes, BitVec.getLsbD_append, BitVec.getLsbD_extractLsb']
  interval_cases i <;> simp

/-- The word at an offset after it was stored there. -/
theorem Memory.wordAt_setWord {m : Memory} (h : Memory.wf m = true) (n : Nat) (v : Word) :
    (m.setWord n v).wordAt n = v := by
  simp only [Memory.wordAt, Memory.setWord, Memory.byteAt_setByte (Memory.wf_setByte h n _),
    Memory.byteAt_setByte h]
  simp only [if_true]
  rw [if_neg (by omega)]
  exact wordOfBytes_halves v

/-- The four memories are in canonical form. -/
def Mem.canonical (m : Mem) : Prop :=
  m.chip.wf = true ∧ m.slow.wf = true ∧ m.fast.wf = true ∧ m.wom.wf = true

/-- A DMA write keeps the canonical form. -/
theorem chipWrite16_canonical {s : State} (h : s.mem.canonical) (p : Ptr) (v : Word) :
    (chipWrite16 p v s).mem.canonical := ⟨Memory.wf_setWord h.1 _ _, h.2⟩

/-- A CPU store keeps the canonical form. -/
theorem storeByte_canonical {s : State} (h : s.mem.canonical) (r : Region) (a : Addr) (v : Byte) :
    (storeByte r a v s).mem.canonical := by
  obtain ⟨h1, h2, h3, h4⟩ := h
  cases r <;> simp only [storeByte]
  case wom =>
    split
    · exact ⟨h1, h2, h3, h4⟩
    · exact ⟨h1, h2, h3, Memory.wf_setByte h4 _ _⟩
  case chip => exact ⟨Memory.wf_setByte h1 _ _, h2, h3, h4⟩
  case slow => exact ⟨h1, Memory.wf_setByte h2 _ _, h3, h4⟩
  case fast => exact ⟨h1, h2, Memory.wf_setByte h3 _ _, h4⟩
  all_goals exact ⟨h1, h2, h3, h4⟩

/-- The reset memory is in canonical form. -/
theorem reset_memory_canonical : State.reset.mem.canonical := ⟨rfl, rfl, rfl, rfl⟩

end Sys2Proof.Machine
end

