-- ==== Sys2Proof/Laws/PerInstr.lean ====
section
/-! SUPPORT. The family RoundTrip of LAWS.json, one lemma per constructor: decoding the code of a well-formed
instruction gives the instruction back. -/

namespace Sys2Proof.Laws.RoundTrip

/-- Decoding inverts encoding at this instruction. -/
def Statement (i : Instr) : Prop := wellFormed i = true → decode (encode i) = .ok i

/-- A leading action's bit, set beside bits that do not hold it, can be taken off again. -/
theorem strip_bit (a : MicroAction) (rest : Word) (h : hasAction rest a = false) :
    (a.bit ||| rest) &&& ~~~ a.bit = rest := by
  apply BitVec.eq_of_getLsbD_eq
  intro i hi
  have hb : a.bit.getLsbD i = decide (i = a.bitIndex) := by
    cases a <;> simp only [MicroAction.bit, MicroAction.bitIndex] <;> revert i <;> decide
  simp only [BitVec.getLsbD_and, BitVec.getLsbD_or, BitVec.getLsbD_not, hi, decide_true, Bool.true_and, hb]
  by_cases h' : i = a.bitIndex
  · subst h'; simpa [hasAction] using h.symm
  · simp [h']

/-- The word of a well-formed micro-instruction term decodes to the term. -/
theorem micro (a : MicroAction) (rest : Word) (h : microTermWellFormed a rest = true) :
    decodeMicro (a.bit ||| rest) = .ok (microInstr a rest) := by
  simp only [microTermWellFormed, Bool.and_eq_true, beq_iff_eq, Bool.not_eq_true'] at h
  obtain ⟨⟨hw, hl⟩, hr⟩ := h
  simp only [decodeMicro, hw, hl, strip_bit a rest hr, if_true]


theorem moveIr1_fields (ra : BitVec 8) :
    (moveIr1 ra).getLsbD 0 = false ∧ (moveIr1 ra).extractLsb' 1 8 = ra := by
  refine ⟨by simp only [moveIr1, BitVec.getLsbD_append]; simp, ?_⟩
  apply BitVec.eq_of_getLsbD_eq
  intro i hi
  simp only [moveIr1, BitVec.getLsbD_extractLsb', BitVec.getLsbD_append]
  interval_cases i <;> simp

theorem waitIr1_fields (vp : BitVec 8) (hp : BitVec 7) : (waitIr1 vp hp).getLsbD 0 = true ∧
    (waitIr1 vp hp).extractLsb' 8 8 = vp ∧ (waitIr1 vp hp).extractLsb' 1 7 = hp := by
  refine ⟨by simp only [waitIr1, BitVec.getLsbD_append]; simp, ?_, ?_⟩ <;>
  · apply BitVec.eq_of_getLsbD_eq
    intro i hi
    simp only [waitIr1, BitVec.getLsbD_extractLsb', BitVec.getLsbD_append]
    interval_cases i <;> simp

theorem waitIr2_fields (bfd : Bool) (ve he : BitVec 7) (op : BitVec 1) :
    (waitIr2 bfd ve he op).getLsbD 0 = op.getLsbD 0 ∧ (waitIr2 bfd ve he op).getLsbD 15 = bfd ∧
    (waitIr2 bfd ve he op).extractLsb' 8 7 = ve ∧ (waitIr2 bfd ve he op).extractLsb' 1 7 = he := by
  refine ⟨by simp only [waitIr2, BitVec.getLsbD_append]; simp,
    by simp only [waitIr2, BitVec.getLsbD_append]; simp, ?_, ?_⟩ <;>
  · apply BitVec.eq_of_getLsbD_eq
    intro i hi
    simp only [waitIr2, BitVec.getLsbD_extractLsb', BitVec.getLsbD_append]
    interval_cases i <;> simp

theorem move_words (ra : BitVec 8) (data : Word) :
    decodeCopper (moveIr1 ra) data = .copperMove ra data := by
  obtain ⟨h0, h1⟩ := moveIr1_fields ra
  unfold decodeCopper
  rw [if_pos h0, h1]

theorem wait_words (vp : BitVec 8) (hp : BitVec 7) (bfd : Bool) (ve he : BitVec 7) :
    decodeCopper (waitIr1 vp hp) (waitIr2 bfd ve he 0#1) = .copperWait vp hp bfd ve he := by
  obtain ⟨a, b, c⟩ := waitIr1_fields vp hp
  obtain ⟨d, e, f, g⟩ := waitIr2_fields bfd ve he 0#1
  unfold decodeCopper
  rw [if_neg (by simp [a]), if_pos (by rw [d]; rfl), b, c, e, f, g]

theorem skip_words (vp : BitVec 8) (hp : BitVec 7) (bfd : Bool) (ve he : BitVec 7) :
    decodeCopper (waitIr1 vp hp) (waitIr2 bfd ve he 1#1) = .copperSkip vp hp bfd ve he := by
  obtain ⟨a, b, c⟩ := waitIr1_fields vp hp
  obtain ⟨d, e, f, g⟩ := waitIr2_fields bfd ve he 1#1
  unfold decodeCopper
  rw [if_neg (by simp [a]), if_neg (by simp [d]), b, c, e, f, g]

theorem unnamed_offset_row : ∀ off : RegOff, unimplementedOffset off = true →
    (regRows.find? (fun r => r.1 == off.toNat)).isNone = true := by decide +kernel

theorem unnamed_offset (off : RegOff) (op : RegOp) (h : unimplementedOffset off = true) :
    decodeRegister off op = .accessUnimplementedOffset off op := by
  have key := unnamed_offset_row off h
  unfold decodeRegister
  cases hf : regRows.find? (fun r => r.1 == off.toNat) with
  | none => rfl
  | some r => simp [hf] at key


theorem copperMove (ra : BitVec 8) (data : Word) : Statement (.copperMove ra data) := fun _ =>
  congrArg Except.ok (move_words ra data)
theorem copperWait (vp : BitVec 8) (hp : BitVec 7) (bfd : Bool) (ve he : BitVec 7) :
    Statement (.copperWait vp hp bfd ve he) := fun _ => congrArg Except.ok (wait_words vp hp bfd ve he)
theorem copperSkip (vp : BitVec 8) (hp : BitVec 7) (bfd : Bool) (ve he : BitVec 7) :
    Statement (.copperSkip vp hp bfd ve he) := fun _ => congrArg Except.ok (skip_words vp hp bfd ve he)
theorem uopBusidle (rest : Word) : Statement (.uopBusidle rest) := fun h => micro .busidle rest h
theorem uopBus (rest : Word) : Statement (.uopBus rest) := fun h => micro .bus rest h
theorem uopWriteD (rest : Word) : Statement (.uopWriteD rest) := fun h => micro .writeD rest h
theorem uopFetchA (rest : Word) : Statement (.uopFetchA rest) := fun h => micro .fetchA rest h
theorem uopFetchB (rest : Word) : Statement (.uopFetchB rest) := fun h => micro .fetchB rest h
theorem uopFetchC (rest : Word) : Statement (.uopFetchC rest) := fun h => micro .fetchC rest h
theorem uopHoldA (rest : Word) : Statement (.uopHoldA rest) := fun h => micro .holdA rest h
theorem uopHoldB (rest : Word) : Statement (.uopHoldB rest) := fun h => micro .holdB rest h
theorem uopHoldD (rest : Word) : Statement (.uopHoldD rest) := fun h => micro .holdD rest h
theorem uopFill (rest : Word) : Statement (.uopFill rest) := fun h => micro .fill rest h
theorem uopBltdone (rest : Word) : Statement (.uopBltdone rest) := fun h => micro .bltdone rest h
theorem uopRepeat (rest : Word) : Statement (.uopRepeat rest) := fun h => micro .repeat rest h
theorem uopNothing : Statement .uopNothing := fun _ => rfl
theorem bltprogFFilloffAccurate : Statement .bltprogFFilloffAccurate := fun _ => rfl
theorem bltprogFFilloffFast : Statement .bltprogFFilloffFast := fun _ => rfl
theorem bltprogFFillonAccurate : Statement .bltprogFFillonAccurate := fun _ => rfl
theorem bltprogFFillonFast : Statement .bltprogFFillonFast := fun _ => rfl
theorem bltprogEFilloffAccurate : Statement .bltprogEFilloffAccurate := fun _ => rfl
theorem bltprogEFilloffFast : Statement .bltprogEFilloffFast := fun _ => rfl
theorem bltprogEFillonAccurate : Statement .bltprogEFillonAccurate := fun _ => rfl
theorem bltprogEFillonFast : Statement .bltprogEFillonFast := fun _ => rfl
theorem bltprogDFilloffAccurate : Statement .bltprogDFilloffAccurate := fun _ => rfl
theorem bltprogDFilloffFast : Statement .bltprogDFilloffFast := fun _ => rfl
theorem bltprogDFillonAccurate : Statement .bltprogDFillonAccurate := fun _ => rfl
theorem bltprogDFillonFast : Statement .bltprogDFillonFast := fun _ => rfl
theorem bltprogCFilloffAccurate : Statement .bltprogCFilloffAccurate := fun _ => rfl
theorem bltprogCFilloffFast : Statement .bltprogCFilloffFast := fun _ => rfl
theorem bltprogCFillonAccurate : Statement .bltprogCFillonAccurate := fun _ => rfl
theorem bltprogCFillonFast : Statement .bltprogCFillonFast := fun _ => rfl
theorem bltprogBFilloffAccurate : Statement .bltprogBFilloffAccurate := fun _ => rfl
theorem bltprogBFilloffFast : Statement .bltprogBFilloffFast := fun _ => rfl
theorem bltprogBFillonAccurate : Statement .bltprogBFillonAccurate := fun _ => rfl
theorem bltprogBFillonFast : Statement .bltprogBFillonFast := fun _ => rfl
theorem bltprogAFilloffAccurate : Statement .bltprogAFilloffAccurate := fun _ => rfl
theorem bltprogAFilloffFast : Statement .bltprogAFilloffFast := fun _ => rfl
theorem bltprogAFillonAccurate : Statement .bltprogAFillonAccurate := fun _ => rfl
theorem bltprogAFillonFast : Statement .bltprogAFillonFast := fun _ => rfl
theorem bltprog9FilloffAccurate : Statement .bltprog9FilloffAccurate := fun _ => rfl
theorem bltprog9FilloffFast : Statement .bltprog9FilloffFast := fun _ => rfl
theorem bltprog9FillonAccurate : Statement .bltprog9FillonAccurate := fun _ => rfl
theorem bltprog9FillonFast : Statement .bltprog9FillonFast := fun _ => rfl
theorem bltprog8FilloffAccurate : Statement .bltprog8FilloffAccurate := fun _ => rfl
theorem bltprog8FilloffFast : Statement .bltprog8FilloffFast := fun _ => rfl
theorem bltprog8FillonAccurate : Statement .bltprog8FillonAccurate := fun _ => rfl
theorem bltprog8FillonFast : Statement .bltprog8FillonFast := fun _ => rfl
theorem bltprog7FilloffAccurate : Statement .bltprog7FilloffAccurate := fun _ => rfl
theorem bltprog7FilloffFast : Statement .bltprog7FilloffFast := fun _ => rfl
theorem bltprog7FillonAccurate : Statement .bltprog7FillonAccurate := fun _ => rfl
theorem bltprog7FillonFast : Statement .bltprog7FillonFast := fun _ => rfl
theorem bltprog6FilloffAccurate : Statement .bltprog6FilloffAccurate := fun _ => rfl
theorem bltprog6FilloffFast : Statement .bltprog6FilloffFast := fun _ => rfl
theorem bltprog6FillonAccurate : Statement .bltprog6FillonAccurate := fun _ => rfl
theorem bltprog6FillonFast : Statement .bltprog6FillonFast := fun _ => rfl
theorem bltprog5FilloffAccurate : Statement .bltprog5FilloffAccurate := fun _ => rfl
theorem bltprog5FilloffFast : Statement .bltprog5FilloffFast := fun _ => rfl
theorem bltprog5FillonAccurate : Statement .bltprog5FillonAccurate := fun _ => rfl
theorem bltprog5FillonFast : Statement .bltprog5FillonFast := fun _ => rfl
theorem bltprog4FilloffAccurate : Statement .bltprog4FilloffAccurate := fun _ => rfl
theorem bltprog4FilloffFast : Statement .bltprog4FilloffFast := fun _ => rfl
theorem bltprog4FillonAccurate : Statement .bltprog4FillonAccurate := fun _ => rfl
theorem bltprog4FillonFast : Statement .bltprog4FillonFast := fun _ => rfl
theorem bltprog3FilloffAccurate : Statement .bltprog3FilloffAccurate := fun _ => rfl
theorem bltprog3FilloffFast : Statement .bltprog3FilloffFast := fun _ => rfl
theorem bltprog3FillonAccurate : Statement .bltprog3FillonAccurate := fun _ => rfl
theorem bltprog3FillonFast : Statement .bltprog3FillonFast := fun _ => rfl
theorem bltprog2FilloffAccurate : Statement .bltprog2FilloffAccurate := fun _ => rfl
theorem bltprog2FilloffFast : Statement .bltprog2FilloffFast := fun _ => rfl
theorem bltprog2FillonAccurate : Statement .bltprog2FillonAccurate := fun _ => rfl
theorem bltprog2FillonFast : Statement .bltprog2FillonFast := fun _ => rfl
theorem bltprog1FilloffAccurate : Statement .bltprog1FilloffAccurate := fun _ => rfl
theorem bltprog1FilloffFast : Statement .bltprog1FilloffFast := fun _ => rfl
theorem bltprog1FillonAccurate : Statement .bltprog1FillonAccurate := fun _ => rfl
theorem bltprog1FillonFast : Statement .bltprog1FillonFast := fun _ => rfl
theorem bltprog0FilloffAccurate : Statement .bltprog0FilloffAccurate := fun _ => rfl
theorem bltprog0FilloffFast : Statement .bltprog0FilloffFast := fun _ => rfl
theorem bltprog0FillonAccurate : Statement .bltprog0FillonAccurate := fun _ => rfl
theorem bltprog0FillonFast : Statement .bltprog0FillonFast := fun _ => rfl
theorem bltprogLine : Statement .bltprogLine := fun _ => rfl
theorem bltFastpath : Statement .bltFastpath := fun _ => rfl
theorem writeBltddat (op : RegOp) : Statement (.writeBltddat op) := fun _ => rfl
theorem readDmaconr (op : RegOp) : Statement (.readDmaconr op) := fun _ => rfl
theorem readVposr (op : RegOp) : Statement (.readVposr op) := fun _ => rfl
theorem readVhposr (op : RegOp) : Statement (.readVhposr op) := fun _ => rfl
theorem writeDskdatr (op : RegOp) : Statement (.writeDskdatr op) := fun _ => rfl
theorem readJoy0dat (op : RegOp) : Statement (.readJoy0dat op) := fun _ => rfl
theorem readJoy1dat (op : RegOp) : Statement (.readJoy1dat op) := fun _ => rfl
theorem readClxdat (op : RegOp) : Statement (.readClxdat op) := fun _ => rfl
theorem readAdkconr (op : RegOp) : Statement (.readAdkconr op) := fun _ => rfl
theorem readPot0dat (op : RegOp) : Statement (.readPot0dat op) := fun _ => rfl
theorem readPot1dat (op : RegOp) : Statement (.readPot1dat op) := fun _ => rfl
theorem readPotgor (op : RegOp) : Statement (.readPotgor op) := fun _ => rfl
theorem readSerdatr (op : RegOp) : Statement (.readSerdatr op) := fun _ => rfl
theorem readDskbytr (op : RegOp) : Statement (.readDskbytr op) := fun _ => rfl
theorem readIntenar (op : RegOp) : Statement (.readIntenar op) := fun _ => rfl
theorem readIntreqr (op : RegOp) : Statement (.readIntreqr op) := fun _ => rfl
theorem writeDskpth (op : RegOp) : Statement (.writeDskpth op) := fun _ => rfl
theorem writeDskptl (op : RegOp) : Statement (.writeDskptl op) := fun _ => rfl
theorem writeDsklen (op : RegOp) : Statement (.writeDsklen op) := fun _ => rfl
theorem writeDskdat (op : RegOp) : Statement (.writeDskdat op) := fun _ => rfl
theorem writeRefptr (op : RegOp) : Statement (.writeRefptr op) := fun _ => rfl
theorem writeVposw (op : RegOp) : Statement (.writeVposw op) := fun _ => rfl
theorem writeVhposw (op : RegOp) : Statement (.writeVhposw op) := fun _ => rfl
theorem writeCopcon (op : RegOp) : Statement (.writeCopcon op) := fun _ => rfl
theorem writeSerdat (op : RegOp) : Statement (.writeSerdat op) := fun _ => rfl
theorem writeSerper (op : RegOp) : Statement (.writeSerper op) := fun _ => rfl
theorem writePotgo (op : RegOp) : Statement (.writePotgo op) := fun _ => rfl
theorem writeJoytest (op : RegOp) : Statement (.writeJoytest op) := fun _ => rfl
theorem writeStrequ (op : RegOp) : Statement (.writeStrequ op) := fun _ => rfl
theorem writeStrvbl (op : RegOp) : Statement (.writeStrvbl op) := fun _ => rfl
theorem writeStrhor (op : RegOp) : Statement (.writeStrhor op) := fun _ => rfl
theorem writeStrlong (op : RegOp) : Statement (.writeStrlong op) := fun _ => rfl
theorem writeBltcon0 (op : RegOp) : Statement (.writeBltcon0 op) := fun _ => rfl
theorem writeBltcon1 (op : RegOp) : Statement (.writeBltcon1 op) := fun _ => rfl
theorem writeBltafwm (op : RegOp) : Statement (.writeBltafwm op) := fun _ => rfl
theorem writeBltalwm (op : RegOp) : Statement (.writeBltalwm op) := fun _ => rfl
theorem writeBltcpth (op : RegOp) : Statement (.writeBltcpth op) := fun _ => rfl
theorem writeBltcptl (op : RegOp) : Statement (.writeBltcptl op) := fun _ => rfl
theorem writeBltbpth (op : RegOp) : Statement (.writeBltbpth op) := fun _ => rfl
theorem writeBltbptl (op : RegOp) : Statement (.writeBltbptl op) := fun _ => rfl
theorem writeBltapth (op : RegOp) : Statement (.writeBltapth op) := fun _ => rfl
theorem writeBltaptl (op : RegOp) : Statement (.writeBltaptl op) := fun _ => rfl
theorem writeBltdpth (op : RegOp) : Statement (.writeBltdpth op) := fun _ => rfl
theorem writeBltdptl (op : RegOp) : Statement (.writeBltdptl op) := fun _ => rfl
theorem writeBltsize (op : RegOp) : Statement (.writeBltsize op) := fun _ => rfl
theorem writeBltcmod (op : RegOp) : Statement (.writeBltcmod op) := fun _ => rfl
theorem writeBltbmod (op : RegOp) : Statement (.writeBltbmod op) := fun _ => rfl
theorem writeBltamod (op : RegOp) : Statement (.writeBltamod op) := fun _ => rfl
theorem writeBltdmod (op : RegOp) : Statement (.writeBltdmod op) := fun _ => rfl
theorem writeBltcdat (op : RegOp) : Statement (.writeBltcdat op) := fun _ => rfl
theorem writeBltbdat (op : RegOp) : Statement (.writeBltbdat op) := fun _ => rfl
theorem writeBltadat (op : RegOp) : Statement (.writeBltadat op) := fun _ => rfl
theorem writeDsksync (op : RegOp) : Statement (.writeDsksync op) := fun _ => rfl
theorem writeCop1lch (op : RegOp) : Statement (.writeCop1lch op) := fun _ => rfl
theorem writeCop1lcl (op : RegOp) : Statement (.writeCop1lcl op) := fun _ => rfl
theorem writeCop2lch (op : RegOp) : Statement (.writeCop2lch op) := fun _ => rfl
theorem writeCop2lcl (op : RegOp) : Statement (.writeCop2lcl op) := fun _ => rfl
theorem writeCopjmp1 (op : RegOp) : Statement (.writeCopjmp1 op) := fun _ => rfl
theorem writeCopjmp2 (op : RegOp) : Statement (.writeCopjmp2 op) := fun _ => rfl
theorem writeCopins (op : RegOp) : Statement (.writeCopins op) := fun _ => rfl
theorem writeDiwstrt (op : RegOp) : Statement (.writeDiwstrt op) := fun _ => rfl
theorem writeDiwstop (op : RegOp) : Statement (.writeDiwstop op) := fun _ => rfl
theorem writeDdfstrt (op : RegOp) : Statement (.writeDdfstrt op) := fun _ => rfl
theorem writeDdfstop (op : RegOp) : Statement (.writeDdfstop op) := fun _ => rfl
theorem writeDmacon (op : RegOp) : Statement (.writeDmacon op) := fun _ => rfl
theorem writeClxcon (op : RegOp) : Statement (.writeClxcon op) := fun _ => rfl
theorem writeIntena (op : RegOp) : Statement (.writeIntena op) := fun _ => rfl
theorem writeIntreq (op : RegOp) : Statement (.writeIntreq op) := fun _ => rfl
theorem writeAdkcon (op : RegOp) : Statement (.writeAdkcon op) := fun _ => rfl
theorem writeAud0lch (op : RegOp) : Statement (.writeAud0lch op) := fun _ => rfl
theorem writeAud0lcl (op : RegOp) : Statement (.writeAud0lcl op) := fun _ => rfl
theorem writeAud0len (op : RegOp) : Statement (.writeAud0len op) := fun _ => rfl
theorem writeAud0per (op : RegOp) : Statement (.writeAud0per op) := fun _ => rfl
theorem writeAud0vol (op : RegOp) : Statement (.writeAud0vol op) := fun _ => rfl
theorem writeAud0dat (op : RegOp) : Statement (.writeAud0dat op) := fun _ => rfl
theorem writeAud1lch (op : RegOp) : Statement (.writeAud1lch op) := fun _ => rfl
theorem writeAud1lcl (op : RegOp) : Statement (.writeAud1lcl op) := fun _ => rfl
theorem writeAud1len (op : RegOp) : Statement (.writeAud1len op) := fun _ => rfl
theorem writeAud1per (op : RegOp) : Statement (.writeAud1per op) := fun _ => rfl
theorem writeAud1vol (op : RegOp) : Statement (.writeAud1vol op) := fun _ => rfl
theorem writeAud1dat (op : RegOp) : Statement (.writeAud1dat op) := fun _ => rfl
theorem writeAud2lch (op : RegOp) : Statement (.writeAud2lch op) := fun _ => rfl
theorem writeAud2lcl (op : RegOp) : Statement (.writeAud2lcl op) := fun _ => rfl
theorem writeAud2len (op : RegOp) : Statement (.writeAud2len op) := fun _ => rfl
theorem writeAud2per (op : RegOp) : Statement (.writeAud2per op) := fun _ => rfl
theorem writeAud2vol (op : RegOp) : Statement (.writeAud2vol op) := fun _ => rfl
theorem writeAud2dat (op : RegOp) : Statement (.writeAud2dat op) := fun _ => rfl
theorem writeAud3lch (op : RegOp) : Statement (.writeAud3lch op) := fun _ => rfl
theorem writeAud3lcl (op : RegOp) : Statement (.writeAud3lcl op) := fun _ => rfl
theorem writeAud3len (op : RegOp) : Statement (.writeAud3len op) := fun _ => rfl
theorem writeAud3per (op : RegOp) : Statement (.writeAud3per op) := fun _ => rfl
theorem writeAud3vol (op : RegOp) : Statement (.writeAud3vol op) := fun _ => rfl
theorem writeAud3dat (op : RegOp) : Statement (.writeAud3dat op) := fun _ => rfl
theorem writeBpl1pth (op : RegOp) : Statement (.writeBpl1pth op) := fun _ => rfl
theorem writeBpl1ptl (op : RegOp) : Statement (.writeBpl1ptl op) := fun _ => rfl
theorem writeBpl2pth (op : RegOp) : Statement (.writeBpl2pth op) := fun _ => rfl
theorem writeBpl2ptl (op : RegOp) : Statement (.writeBpl2ptl op) := fun _ => rfl
theorem writeBpl3pth (op : RegOp) : Statement (.writeBpl3pth op) := fun _ => rfl
theorem writeBpl3ptl (op : RegOp) : Statement (.writeBpl3ptl op) := fun _ => rfl
theorem writeBpl4pth (op : RegOp) : Statement (.writeBpl4pth op) := fun _ => rfl
theorem writeBpl4ptl (op : RegOp) : Statement (.writeBpl4ptl op) := fun _ => rfl
theorem writeBpl5pth (op : RegOp) : Statement (.writeBpl5pth op) := fun _ => rfl
theorem writeBpl5ptl (op : RegOp) : Statement (.writeBpl5ptl op) := fun _ => rfl
theorem writeBpl6pth (op : RegOp) : Statement (.writeBpl6pth op) := fun _ => rfl
theorem writeBpl6ptl (op : RegOp) : Statement (.writeBpl6ptl op) := fun _ => rfl
theorem writeBplcon0 (op : RegOp) : Statement (.writeBplcon0 op) := fun _ => rfl
theorem writeBplcon1 (op : RegOp) : Statement (.writeBplcon1 op) := fun _ => rfl
theorem writeBplcon2 (op : RegOp) : Statement (.writeBplcon2 op) := fun _ => rfl
theorem writeBpl1mod (op : RegOp) : Statement (.writeBpl1mod op) := fun _ => rfl
theorem writeBpl2mod (op : RegOp) : Statement (.writeBpl2mod op) := fun _ => rfl
theorem writeBpl1dat (op : RegOp) : Statement (.writeBpl1dat op) := fun _ => rfl
theorem writeBpl2dat (op : RegOp) : Statement (.writeBpl2dat op) := fun _ => rfl
theorem writeBpl3dat (op : RegOp) : Statement (.writeBpl3dat op) := fun _ => rfl
theorem writeBpl4dat (op : RegOp) : Statement (.writeBpl4dat op) := fun _ => rfl
theorem writeBpl5dat (op : RegOp) : Statement (.writeBpl5dat op) := fun _ => rfl
theorem writeBpl6dat (op : RegOp) : Statement (.writeBpl6dat op) := fun _ => rfl
theorem writeSpr0pth (op : RegOp) : Statement (.writeSpr0pth op) := fun _ => rfl
theorem writeSpr0ptl (op : RegOp) : Statement (.writeSpr0ptl op) := fun _ => rfl
theorem writeSpr1pth (op : RegOp) : Statement (.writeSpr1pth op) := fun _ => rfl
theorem writeSpr1ptl (op : RegOp) : Statement (.writeSpr1ptl op) := fun _ => rfl
theorem writeSpr2pth (op : RegOp) : Statement (.writeSpr2pth op) := fun _ => rfl
theorem writeSpr2ptl (op : RegOp) : Statement (.writeSpr2ptl op) := fun _ => rfl
theorem writeSpr3pth (op : RegOp) : Statement (.writeSpr3pth op) := fun _ => rfl
theorem writeSpr3ptl (op : RegOp) : Statement (.writeSpr3ptl op) := fun _ => rfl
theorem writeSpr4pth (op : RegOp) : Statement (.writeSpr4pth op) := fun _ => rfl
theorem writeSpr4ptl (op : RegOp) : Statement (.writeSpr4ptl op) := fun _ => rfl
theorem writeSpr5pth (op : RegOp) : Statement (.writeSpr5pth op) := fun _ => rfl
theorem writeSpr5ptl (op : RegOp) : Statement (.writeSpr5ptl op) := fun _ => rfl
theorem writeSpr6pth (op : RegOp) : Statement (.writeSpr6pth op) := fun _ => rfl
theorem writeSpr6ptl (op : RegOp) : Statement (.writeSpr6ptl op) := fun _ => rfl
theorem writeSpr7pth (op : RegOp) : Statement (.writeSpr7pth op) := fun _ => rfl
theorem writeSpr7ptl (op : RegOp) : Statement (.writeSpr7ptl op) := fun _ => rfl
theorem writeSpr0pos (op : RegOp) : Statement (.writeSpr0pos op) := fun _ => rfl
theorem writeSpr0ctl (op : RegOp) : Statement (.writeSpr0ctl op) := fun _ => rfl
theorem writeSpr0data (op : RegOp) : Statement (.writeSpr0data op) := fun _ => rfl
theorem writeSpr0datb (op : RegOp) : Statement (.writeSpr0datb op) := fun _ => rfl
theorem writeSpr1pos (op : RegOp) : Statement (.writeSpr1pos op) := fun _ => rfl
theorem writeSpr1ctl (op : RegOp) : Statement (.writeSpr1ctl op) := fun _ => rfl
theorem writeSpr1data (op : RegOp) : Statement (.writeSpr1data op) := fun _ => rfl
theorem writeSpr1datb (op : RegOp) : Statement (.writeSpr1datb op) := fun _ => rfl
theorem writeSpr2pos (op : RegOp) : Statement (.writeSpr2pos op) := fun _ => rfl
theorem writeSpr2ctl (op : RegOp) : Statement (.writeSpr2ctl op) := fun _ => rfl
theorem writeSpr2data (op : RegOp) : Statement (.writeSpr2data op) := fun _ => rfl
theorem writeSpr2datb (op : RegOp) : Statement (.writeSpr2datb op) := fun _ => rfl
theorem writeSpr3pos (op : RegOp) : Statement (.writeSpr3pos op) := fun _ => rfl
theorem writeSpr3ctl (op : RegOp) : Statement (.writeSpr3ctl op) := fun _ => rfl
theorem writeSpr3data (op : RegOp) : Statement (.writeSpr3data op) := fun _ => rfl
theorem writeSpr3datb (op : RegOp) : Statement (.writeSpr3datb op) := fun _ => rfl
theorem writeSpr4pos (op : RegOp) : Statement (.writeSpr4pos op) := fun _ => rfl
theorem writeSpr4ctl (op : RegOp) : Statement (.writeSpr4ctl op) := fun _ => rfl
theorem writeSpr4data (op : RegOp) : Statement (.writeSpr4data op) := fun _ => rfl
theorem writeSpr4datb (op : RegOp) : Statement (.writeSpr4datb op) := fun _ => rfl
theorem writeSpr5pos (op : RegOp) : Statement (.writeSpr5pos op) := fun _ => rfl
theorem writeSpr5ctl (op : RegOp) : Statement (.writeSpr5ctl op) := fun _ => rfl
theorem writeSpr5data (op : RegOp) : Statement (.writeSpr5data op) := fun _ => rfl
theorem writeSpr5datb (op : RegOp) : Statement (.writeSpr5datb op) := fun _ => rfl
theorem writeSpr6pos (op : RegOp) : Statement (.writeSpr6pos op) := fun _ => rfl
theorem writeSpr6ctl (op : RegOp) : Statement (.writeSpr6ctl op) := fun _ => rfl
theorem writeSpr6data (op : RegOp) : Statement (.writeSpr6data op) := fun _ => rfl
theorem writeSpr6datb (op : RegOp) : Statement (.writeSpr6datb op) := fun _ => rfl
theorem writeSpr7pos (op : RegOp) : Statement (.writeSpr7pos op) := fun _ => rfl
theorem writeSpr7ctl (op : RegOp) : Statement (.writeSpr7ctl op) := fun _ => rfl
theorem writeSpr7data (op : RegOp) : Statement (.writeSpr7data op) := fun _ => rfl
theorem writeSpr7datb (op : RegOp) : Statement (.writeSpr7datb op) := fun _ => rfl
theorem writeColor00 (op : RegOp) : Statement (.writeColor00 op) := fun _ => rfl
theorem writeColor01 (op : RegOp) : Statement (.writeColor01 op) := fun _ => rfl
theorem writeColor02 (op : RegOp) : Statement (.writeColor02 op) := fun _ => rfl
theorem writeColor03 (op : RegOp) : Statement (.writeColor03 op) := fun _ => rfl
theorem writeColor04 (op : RegOp) : Statement (.writeColor04 op) := fun _ => rfl
theorem writeColor05 (op : RegOp) : Statement (.writeColor05 op) := fun _ => rfl
theorem writeColor06 (op : RegOp) : Statement (.writeColor06 op) := fun _ => rfl
theorem writeColor07 (op : RegOp) : Statement (.writeColor07 op) := fun _ => rfl
theorem writeColor08 (op : RegOp) : Statement (.writeColor08 op) := fun _ => rfl
theorem writeColor09 (op : RegOp) : Statement (.writeColor09 op) := fun _ => rfl
theorem writeColor10 (op : RegOp) : Statement (.writeColor10 op) := fun _ => rfl
theorem writeColor11 (op : RegOp) : Statement (.writeColor11 op) := fun _ => rfl
theorem writeColor12 (op : RegOp) : Statement (.writeColor12 op) := fun _ => rfl
theorem writeColor13 (op : RegOp) : Statement (.writeColor13 op) := fun _ => rfl
theorem writeColor14 (op : RegOp) : Statement (.writeColor14 op) := fun _ => rfl
theorem writeColor15 (op : RegOp) : Statement (.writeColor15 op) := fun _ => rfl
theorem writeColor16 (op : RegOp) : Statement (.writeColor16 op) := fun _ => rfl
theorem writeColor17 (op : RegOp) : Statement (.writeColor17 op) := fun _ => rfl
theorem writeColor18 (op : RegOp) : Statement (.writeColor18 op) := fun _ => rfl
theorem writeColor19 (op : RegOp) : Statement (.writeColor19 op) := fun _ => rfl
theorem writeColor20 (op : RegOp) : Statement (.writeColor20 op) := fun _ => rfl
theorem writeColor21 (op : RegOp) : Statement (.writeColor21 op) := fun _ => rfl
theorem writeColor22 (op : RegOp) : Statement (.writeColor22 op) := fun _ => rfl
theorem writeColor23 (op : RegOp) : Statement (.writeColor23 op) := fun _ => rfl
theorem writeColor24 (op : RegOp) : Statement (.writeColor24 op) := fun _ => rfl
theorem writeColor25 (op : RegOp) : Statement (.writeColor25 op) := fun _ => rfl
theorem writeColor26 (op : RegOp) : Statement (.writeColor26 op) := fun _ => rfl
theorem writeColor27 (op : RegOp) : Statement (.writeColor27 op) := fun _ => rfl
theorem writeColor28 (op : RegOp) : Statement (.writeColor28 op) := fun _ => rfl
theorem writeColor29 (op : RegOp) : Statement (.writeColor29 op) := fun _ => rfl
theorem writeColor30 (op : RegOp) : Statement (.writeColor30 op) := fun _ => rfl
theorem writeColor31 (op : RegOp) : Statement (.writeColor31 op) := fun _ => rfl
theorem accessUnimplementedOffset (off : RegOff) (op : RegOp) :
    Statement (.accessUnimplementedOffset off op) := fun h => congrArg Except.ok (unnamed_offset off op h)

end Sys2Proof.Laws.RoundTrip
end

