-- ==== Sys2Proof/Laws/Slot.lean ====
section
/-! SUPPORT. The event scheduler and the CPU port: what serving the event slots does, and what the CPU's
instructions without an access change. -/

namespace Sys2Proof.Machine

/-- An event slot just replaced holds what was put there. -/
theorem Events.put_slots_self (ev : Events) (i : Fin 13) (e : Event) : (ev.put i e).slots[i] = e := by
  simp [Events.put]

/-- Every other event slot is as before. -/
theorem Events.put_slots_other (ev : Events) (i j : Fin 13) (e : Event) (h : i ≠ j) :
    (ev.put i e).slots[j] = ev.slots[j] := by
  have : i.val ≠ j.val := fun k => h (Fin.ext k)
  simp [Events.put, Vector.getElem_set_ne, this]

/-- A cancelled event slot is not due. -/
@[simp] theorem eventDue_cancel (i : Fin 13) (s : State) : eventDue i (cancel i s) = false := by
  have h : (cancel i s).events.slots[i] = { s.events.slots[i] with trigger := neverTrigger, id := .none } :=
    Events.put_slots_self _ _ _
  simp only [eventDue, h]
  rfl

/-- A cancellation leaves the other event slots as they were. -/
theorem eventDue_cancel_other (i j : Fin 13) (s : State) (h : i ≠ j) :
    eventDue j (cancel i s) = eventDue j s := by
  have k : (cancel i s).events.slots[j] = s.events.slots[j] := Events.put_slots_other _ _ _ _ h
  simp only [eventDue, k, cancel_now]

/-- An event scheduled for the current slot is due in it. -/
theorem eventDue_scheduleAbs_now (i : Fin 13) (id : EventId) (s : State) (h : id ≠ .none) :
    eventDue i (scheduleAbs i s.now id s) = true := by
  have k : (scheduleAbs i s.now id s).events.slots[i] = { trigger := s.now, id := id, data := 0 } :=
    Events.put_slots_self _ _ _
  have n : s.now.toInt ≤ (s.now.toNat : Int) := by rw [BitVec.toInt_eq_toNat_cond]; split <;> omega
  simp only [eventDue, k, scheduleAbs_now, h, n, ne_eq, not_false_eq_true, decide_true, Bool.and_self]

/-- A slot that is not due is passed over. -/
theorem serveEvent_idle (o : BusOwner) (i : Fin 13) (s : State) (h : eventDue i s = false) :
    serveEvent o i s = .next s := by
  simp [serveEvent, h]

/-- A slot that is due has its handler called. -/
theorem serveEvent_due (o : BusOwner) (i : Fin 13) (s : State) (h : eventDue i s = true) :
    serveEvent o i s = handleEvent o i s := by
  simp [serveEvent, h]

/-- Where no slot is due, serving changes nothing. -/
theorem serveEvents_idle (o : BusOwner) (l : List (Fin 13)) (s : State) (h : ∀ i ∈ l, eventDue i s = false) :
    serveEvents o l s = .next s := by
  induction l with
  | nil => rfl
  | cons i l ih =>
    rw [serveEvents, serveEvent_idle o i s (h i (.head _)), andThen_next]
    exact ih (fun j hj => h j (.tail _ hj))

/-- A property that every handler keeps is kept by serving. -/
theorem serveEvents_keeps {P : State → Prop} (o : BusOwner)
    (hstep : ∀ i s t, P s → handleEvent o i s = .next t → P t) (l : List (Fin 13)) :
    ∀ s t, P s → serveEvents o l s = .next t → P t := by
  induction l with
  | nil =>
    intro s t hs h
    obtain rfl : s = t := by simpa [serveEvents] using h
    exact hs
  | cons i l ih =>
    intro s t hs h
    obtain ⟨u, hu, ht⟩ := (andThen_eq_next _ _ _).1 h
    refine ih u t ?_ ht
    unfold serveEvent at hu
    split at hu
    · exact hstep i s u hs hu
    · obtain rfl : s = u := by simpa using hu
      exact hs

/-- The handlers, slot by slot. -/
theorem handleEvent_cases (o : BusOwner) (i : Fin 13) (s : State) :
    (i = slotReg ∧ handleEvent o i s = .next (applyDue s)) ∨
    (i = slotCopper ∧ handleEvent o i s = copperStep o (cancel i s)) ∨
    (i = slotBlitter ∧ handleEvent o i s = blitterStep o (cancel i s)) ∨
    (i = slotBitplane ∧ handleEvent o i s = .next (bitplaneStep o (cancel i s))) ∨
    (foreignSlot i = true ∧ handleEvent o i s = .next (cancel i (foreignStep i s))) := by
  by_cases h1 : i = slotReg
  · exact .inl ⟨h1, by simp [handleEvent, h1]⟩
  by_cases h2 : i = slotCopper
  · subst h2; exact .inr (.inl ⟨rfl, rfl⟩)
  by_cases h3 : i = slotBlitter
  · subst h3; exact .inr (.inr (.inl ⟨rfl, rfl⟩))
  by_cases h4 : i = slotBitplane
  · subst h4; exact .inr (.inr (.inr (.inl ⟨rfl, rfl⟩)))
  · exact .inr (.inr (.inr (.inr ⟨by simp [foreignSlot, h1, h2, h3, h4], by simp [handleEvent, h1, h2, h3, h4]⟩)))

/-- The CPU's instructions without an access change the CPU's queue and its clock, nothing else. -/
theorem runIdle_changes (l : List CpuInstr) (s : State) :
    ∃ q clock, runIdle l s = { s with
      cpu := { s.cpu with queue := q }, bus := { s.bus with cpuClock := clock } } := by
  induction l generalizing s with
  | nil => exact ⟨[], s.bus.cpuClock, rfl⟩
  | cons i l ih =>
    unfold runIdle
    split
    · obtain ⟨q, clock, h⟩ := ih (spendCost i.cost s)
      exact ⟨q, clock, h⟩
    · exact ⟨i :: l, s.bus.cpuClock, rfl⟩

/-- What is left of an instruction changes the CPU's queue and its clock, nothing else. -/
theorem continueInstr_changes (rest : List CpuAccess) (cost : Nat) (later : List CpuInstr) (s : State) :
    ∃ q clock, continueInstr rest cost later s = { s with
      cpu := { s.cpu with queue := q }, bus := { s.bus with cpuClock := clock } } := by
  cases rest
  · exact ⟨_, _, rfl⟩
  · exact ⟨_, s.bus.cpuClock, rfl⟩

end Sys2Proof.Machine
end

