-- ==== Sys2Proof/Tests/Slice0.lean ====
section
/-! SUPPORT. Tests: ill-formed terms, words written out from the encodings, the vectors of
spec/95_test_vectors.md that one operation or one slot shows, and the witnesses of the statements. -/

open Sys2Proof Sys2Proof.Machine

namespace Sys2Proof.Tests

set_option Elab.async false

/-! ### Helpers -/

/-- The common start state of spec/95_test_vectors.md. -/
def base : State := State.cold Cfg.default

/-- The state an answer holds, or the one given. -/
def stateOr (r : Result) (d : State) : State := match r with | .next t => t | .fault _ => d | .refused _ => d

/-- The state after an instruction. -/
def after (i : Instr) (s : State) : State := stateOr (exec i s) s

/-- The answer is a next state. -/
def answers (r : Result) : Bool := match r with | .next _ => true | .fault _ => false | .refused _ => false

/-- The beam at a position. -/
def at_ (v : BitVec 9) (h : BitVec 8) (s : State) : State := { s with beam := { s.beam with v := v, h := h } }

/-- A DMACON value. -/
def dma (v : Word) (s : State) : State := { s with ctl := { s.ctl with dmacon := v } }

/-- The overlay line low. -/
def low (s : State) : State :=
  { s with mem := { s.mem with ovl := false, memSrc := buildMemSrc s.cfg false s.mem.womLocked } }

/-- One delayed write due. -/
def due (off : Nat) (v : Word) (s : State) : State :=
  { s with pending := [{ due := s.now, off := off, value := v }],
           events := s.events.put slotReg { trigger := s.now, id := .regWrite, data := 0 } }

/-! ### Well-formedness: one ill-formed term for each check -/

/-- Two actions of the bus class (rule R158). -/
theorem test_wf_refuses_two_bus_actions : wellFormed (.uopBusidle 0x0002#16) = false := by decide
/-- `FILL` without `HOLD_D` (rule R158). -/
theorem test_wf_refuses_fill_alone : wellFormed (.uopFill 0#16) = false := by decide
/-- A bit of 15:12 (rule R157). -/
theorem test_wf_refuses_high_bits : wellFormed (.uopBus 0x1000#16) = false := by decide
/-- An action that does not lead its word (log entry 3). -/
theorem test_wf_refuses_wrong_leader : wellFormed (.uopRepeat 0x0004#16) = false := by decide
/-- A leading action given twice (log entry 3). -/
theorem test_wf_refuses_leader_twice : wellFormed (.uopBus 0x0002#16) = false := by decide
/-- An offset that names a register (rule R165). -/
theorem test_wf_refuses_named_offset : wellFormed (.accessUnimplementedOffset 0x096#9 .read) = false := by decide
/-- An odd offset (rule R160). -/
theorem test_wf_refuses_odd_offset : wellFormed (.accessUnimplementedOffset 0x1FF#9 .read) = false := by decide
/-- The boundary offsets of class `-` are well-formed (rule R67). -/
theorem test_wf_unimplemented_bounds :
    ([0x05A#9, 0x05E#9, 0x0F8#9, 0x106#9, 0x1C0#9, 0x1FE#9].all
      (fun o => wellFormed (.accessUnimplementedOffset o .read))) = true := by decide
/-- The checked constructors are well-formed somewhere. -/
theorem test_wf_micro_terms :
    ([.uopBusidle 0#16, .uopBus 0x800#16, .uopWriteD 0x9C0#16, .uopFetchA 0x9C0#16, .uopFetchB 0#16,
      .uopFetchC 0#16, .uopHoldA 0x180#16, .uopHoldB 0#16, .uopFill 0x100#16, .uopHoldD 0#16, .uopRepeat 0#16,
      .uopBltdone 0#16].all wellFormed) = true := by decide

/-! ### Words written out from the encodings (rules R150-R165) -/

/-- The words of scenario S6 (rule R155): WAIT (100, 0), MOVE BPLCON0. -/
theorem test_decode_copper_s6 :
    decodeBytes .copper [0x64#8, 0x01#8, 0xFF#8, 0xFE#8] = .ok (.copperWait 100#8 0#7 true 127#7 127#7, []) ∧
    decodeBytes .copper [0x01#8, 0x00#8, 0x02#8, 0x00#8] = .ok (.copperMove 0x80#8 0x0200#16, []) := by decide
/-- SKIP (150, 0); the end of a list; WAIT with `BFD = 0`. -/
theorem test_decode_copper_others :
    decode (.copper 0x9601#16 0xFFFF#16) = .ok (.copperSkip 150#8 0#7 true 127#7 127#7) ∧
    decode (.copper 0xFFFF#16 0xFFFE#16) = .ok (.copperWait 255#8 127#7 true 127#7 127#7) ∧
    decode (.copper 0x0041#16 0x80FE#16) = .ok (.copperWait 0#8 0x20#7 true 0#7 0x7F#7) ∧
    decode (.copper 0x0001#16 0x7FFE#16) = .ok (.copperWait 0#8 0#7 false 0x7F#7 0x7F#7) := by decide
/-- A MOVE ignores bits 15:9 of `IR1` (rule R152). -/
theorem test_decode_move_high_bits : decode (.copper 0xFE88#16 0#16) = .ok (.copperMove 0x44#8 0#16) := by decide
/-- The micro-instruction words of rule R321. -/
theorem test_decode_micro :
    decodeBytes .micro [0x09#8, 0xC4#8] = .ok (.uopWriteD 0x09C0#16, []) ∧
    decode (.micro 0x0BE0#16) = .ok (.uopFetchC 0x0BC0#16) ∧
    decode (.micro 0x0300#16) = .ok (.uopFill 0x0100#16) ∧
    decode (.micro 0x0801#16) = .ok (.uopBusidle 0x0800#16) ∧
    decode (.micro 0x0400#16) = .ok (.uopBltdone 0#16) ∧
    decode (.micro 0#16) = .ok .uopNothing := by decide
/-- Micro-instruction words that rule R158 refuses, by name. -/
theorem test_decode_micro_refused :
    decode (.micro 0x0003#16) = .error (.illFormedMicroWord 0x0003#16) ∧
    decode (.micro 0x0200#16) = .error (.illFormedMicroWord 0x0200#16) ∧
    decode (.micro 0x1000#16) = .error (.illFormedMicroWord 0x1000#16) := by decide
/-- A register write and a register read (rule R160). -/
theorem test_decode_register :
    decodeBytes .registerWrite [0x01#8, 0x80#8, 0x0F#8, 0x00#8] = .ok (.writeColor00 (.write 0x0F00#16), []) ∧
    decodeBytes .registerRead [0x00#8, 0x02#8] = .ok (.readDmaconr .read, []) ∧
    decode (.register 0x1BE#9 (.write 1#16)) = .ok (.writeColor31 (.write 1#16)) ∧
    decode (.register 0x05A#9 .read) = .ok (.accessUnimplementedOffset 0x05A#9 .read) := by decide
/-- Program selectors: shape F with fill, accurate; shape 0, no fill, fast. -/
theorem test_decode_program :
    decode (.program 15#4 true false) = .ok .bltprogFFillonAccurate ∧
    decode (.program 0#4 false true) = .ok .bltprog0FilloffFast := by decide
/-- Every register row at its offset (rule R67): the offsets stand in the lists of Safety.lean. -/
theorem test_decode_register_rows :
    ((readOnlyRows ++ collaboratorReadRows ++ collaboratorWriteRows ++ strobeRows ++ writeOnlyRows).all (fun r =>
      decide ((decode (.register (BitVec.ofNat 9 r.1) .read)).toOption = some (r.2 .read)))) = true ∧
    (readOnlyRows ++ collaboratorReadRows ++ collaboratorWriteRows ++ strobeRows ++ writeOnlyRows).length = 196 := by
  decide +kernel
/-- Every program row at its selector, in the table's order: shape F to 0, fill off then on, accurate then fast. -/
theorem test_decode_program_rows :
    ((List.range 64).all (fun k => decide
      ((decode (.program (BitVec.ofNat 4 (15 - k / 4)) (k / 2 % 2 == 1) (k % 2 == 1))).toOption =
        (programTable.map Prod.fst)[k]?))) = true := by decide +kernel
/-- Every action row at its bit (rule R157); `FILL` with the `HOLD_D` that rule R158 asks for. -/
theorem test_decode_action_rows :
    ([(0x0001#16, .uopBusidle 0#16), (0x0002#16, .uopBus 0#16), (0x0004#16, .uopWriteD 0#16),
      (0x0008#16, .uopFetchA 0#16), (0x0010#16, .uopFetchB 0#16), (0x0020#16, .uopFetchC 0#16),
      (0x0040#16, .uopHoldA 0#16), (0x0080#16, .uopHoldB 0#16), (0x0100#16, .uopHoldD 0#16),
      (0x0300#16, .uopFill 0x0100#16), (0x0400#16, .uopBltdone 0#16), (0x0800#16, .uopRepeat 0#16)].all
      (fun r => decide ((decode (.micro r.1)).toOption = some r.2))) = true := by decide +kernel
/-- Bytes that are no instruction are rejected by name. -/
theorem test_decode_rejects :
    decodeBytes .copper [0x64#8, 0x01#8, 0xFF#8] = .error .truncated ∧
    decodeBytes .registerRead [0x02#8, 0x00#8] = .error (.badOffset 0x0200#16) ∧
    decodeBytes .registerRead [0x00#8, 0x03#8] = .error (.badOffset 0x0003#16) ∧
    decodeBytes .program [0x42#8] = .error (.badSelector 0x42#8) := by decide
/-- Words as the opcode table numbers them. -/
theorem test_decode_table_words :
    decodeTableWord 32 0x64010000 = some (.copperWait 100#8 0#7 false 0#7 0#7) ∧
    decodeTableWord 8 0x02 = some (.uopBus 0#16) ∧
    decodeTableWord 16 0x180 = some (.writeColor00 (.write 0#16)) ∧
    decodeTableWord 16 0x800 = some (.uopRepeat 0#16) := by decide

/-! ### Operands and flags: the tables of spec/95_test_vectors.md, part 2 -/

/-- The minterm table, `a = $FF00`, `b = $F0F0`, `c = $CCCC`. -/
theorem test_minterm_table :
    ([(0xF0#8, 0xFF00#16), (0xCC#8, 0xF0F0#16), (0xAA#8, 0xCCCC#16), (0xFA#8, 0xFFCC#16), (0xCA#8, 0xF0CC#16),
      (0x00#8, 0#16), (0xFF#8, 0xFFFF#16), (0x0F#8, 0x00FF#16), (0x3C#8, 0x0FF0#16), (0x96#8, 0xC33C#16),
      (0xE8#8, 0xFCC0#16), (0x80#8, 0xC000#16)].all
      (fun r => minterm 0xFF00#16 0xF0F0#16 0xCCCC#16 r.1 == r.2)) = true := by decide +kernel
/-- V-SH-1 to V-SH-9. -/
theorem test_barrel_shifter :
    barrelShift false 0xFFFF#16 0#16 4 = 0x0FFF#16 ∧ barrelShift false 0x5678#16 0x1234#16 8 = 0x3456#16 ∧
    barrelShift false 0x8001#16 0#16 0 = 0x8001#16 ∧ barrelShift false 0x8001#16 0#16 1 = 0x4000#16 ∧
    barrelShift false 0x8001#16 0xFFFF#16 15 = 0xFFFF#16 ∧ barrelShift true 0x1234#16 0#16 4 = 0x2340#16 ∧
    barrelShift true 0x1234#16 0x5678#16 4 = 0x2345#16 ∧ barrelShift true 0x8001#16 0#16 15 = 0x8000#16 ∧
    barrelShift true 0x0001#16 0x8000#16 1 = 0x0003#16 := by decide +kernel
/-- V-MSK-1, V-MSK-2. -/
theorem test_masks :
    channelAMask 0xFF00#16 0x0FF0#16 1 1 = 0x0F00#16 ∧ channelAMask 0x00FF#16 0xFF00#16 3 3 = 0x00FF#16 ∧
    channelAMask 0x00FF#16 0xFF00#16 2 3 = 0xFFFF#16 ∧ channelAMask 0x00FF#16 0xFF00#16 1 3 = 0xFF00#16 := by
  decide +kernel
/-- The fill table, exclusive (`EFE`), with the carry in. -/
theorem test_fill_exclusive :
    ([(0x8001#16, false, 0x7FFF#16, false), (0x8001#16, true, 0x8000#16, true), (0#16, true, 0xFFFF#16, true),
      (0x0100#16, false, 0xFF00#16, true), (0x0100#16, true, 0x00FF#16, false), (0x0810#16, false, 0x07F0#16, false),
      (0x1111#16, false, 0x0F0F#16, false), (0xFFFF#16, false, 0x5555#16, false),
      (0x8000#16, true, 0x7FFF#16, false), (0x2000#16, true, 0x1FFF#16, false)].all
      (fun r => fillWord 0x0010#16 r.2.1 r.1 == (r.2.2.1, r.2.2.2))) = true := by decide +kernel
/-- The fill table, inclusive (`IFE`). -/
theorem test_fill_inclusive :
    ([(0x8001#16, false, 0xFFFF#16, false), (0x8001#16, true, 0x8001#16, true), (0x0100#16, false, 0xFF00#16, true),
      (0x0100#16, true, 0x01FF#16, false), (0x0810#16, false, 0x0FF0#16, false), (0x1111#16, false, 0x1F1F#16, false),
      (0xFFFF#16, false, 0xFFFF#16, false), (0x0001#16, false, 0xFFFF#16, true)].all
      (fun r => fillWord 0x0008#16 r.2.1 r.1 == (r.2.2.1, r.2.2.2))) = true := by decide +kernel
/-- V-BSZ-1 to V-BSZ-4. -/
theorem test_bltsize :
    sizeH 0x0084#16 = 2 ∧ sizeW 0x0084#16 = 4 ∧ sizeH 0#16 = 1024 ∧ sizeW 0#16 = 64 ∧ sizeH 0xFFFF#16 = 1023 ∧
    sizeW 0xFFFF#16 = 63 := by decide +kernel
/-- V-INT-1 to V-INT-17. -/
theorem test_interrupt_levels :
    ([(0x0040#16, 0x4040#16, 3#3), (0x0040#16, 0x0040#16, 0#3), (0x0001#16, 0x4001#16, 1#3),
      (0x0004#16, 0x4004#16, 1#3), (0x0008#16, 0x4008#16, 2#3), (0x0010#16, 0x4010#16, 3#3),
      (0x0020#16, 0x4020#16, 3#3), (0x0080#16, 0x4080#16, 4#3), (0x0400#16, 0x4400#16, 4#3),
      (0x0800#16, 0x4800#16, 5#3), (0x1000#16, 0x5000#16, 5#3), (0x2000#16, 0x6000#16, 6#3),
      (0x3FFF#16, 0x7FFF#16, 6#3), (0x3FFF#16, 0x4000#16, 0#3), (0x4000#16, 0x4000#16, 0#3),
      (0x2041#16, 0x4041#16, 3#3)].all (fun r => interruptLevel r.1 r.2.1 == r.2.2)) = true := by decide +kernel
/-- V-CMP-1 to V-CMP-13: the comparator, with the Blitter busy or not. -/
theorem test_copper_comparator :
    copCond 100#8 0#7 true 127#7 127#7 99#9 0xE2#8 false = false ∧
    copCond 100#8 0#7 true 127#7 127#7 100#9 0#8 true = true ∧
    copCond 100#8 0x20#7 true 127#7 127#7 100#9 0x3F#8 false = false ∧
    copCond 100#8 0x20#7 true 127#7 127#7 100#9 0x41#8 false = true ∧
    copCond 100#8 0#7 true 127#7 127#7 300#9 5#8 false = false ∧
    copCond 0#8 0x20#7 true 0#7 127#7 10#9 0x40#8 false = true ∧
    copCond 0x0F#8 0#7 true 0x0F#7 127#7 0x20#9 0#8 false = false ∧
    copCond 0x80#8 0#7 true 0#7 127#7 0x7F#9 0x80#8 false = false ∧
    copCond 255#8 127#7 true 127#7 127#7 255#9 0xE2#8 false = false ∧
    copCond 0#8 0#7 false 127#7 127#7 0#9 0#8 false = true ∧
    copCond 0#8 0#7 false 127#7 127#7 0#9 0#8 true = false := by decide +kernel
/-- V-DDF-1 to V-DDF-5. -/
theorem test_fetch_window :
    ddfStartOf false 0x38#16 = 0x38 ∧ ddfBlocksOf 0x38 (ddfStopOf 0xD0#16) = 20 ∧
    ddfStartOf true 0x3C#16 = 0x3C ∧ ddfBlocksOf 0x3C (ddfStopOf 0xD4#16) = 20 ∧
    ddfStartOf false 0x3C#16 = 0x38 ∧ ddfStartOf false 0x10#16 = 0x18 ∧ ddfBlocksOf 0x18 (ddfStopOf 0xD0#16) = 24 ∧
    ddfBlocksOf 0xD0 (ddfStopOf 0x38#16) = 0 := by decide +kernel
/-- V-DIW-1 to V-DIW-3. -/
theorem test_display_window :
    vstart9 0x2C81#16 = 44#9 ∧ vstop9 0x2CC1#16 = 300#9 ∧ vstop9 0xF4C1#16 = 244#9 ∧
    (diwVertical 172#9 { Window.reset with diwstrt := 0xAC81#16, diwstop := 0xACC1#16 }).diwV = false ∧
    (diwVertical 44#9 { Window.reset with diwstrt := 0x2C81#16, diwstop := 0x2CC1#16 }).diwV = true := by
  decide +kernel
/-- V-DEN-9, V-DEN-10; V-DEN-8, the HAM sequence. -/
theorem test_colours :
    rgba 0xF00#12 = 0xFF0000FF#32 ∧ rgba 0x8C4#12 = 0x88CC44FF#32 ∧ halfBright 0xACE#12 = 0x567#12 ∧
    hamNext base.denise.color 0x000#12 0x2F#6 = 0xF00#12 ∧ hamNext base.denise.color 0xF00#12 0x1A#6 = 0xF0A#12 ∧
    hamNext base.denise.color 0xF0A#12 0x35#6 = 0xF5A#12 ∧
    hamNext (base.denise.color.set 3 0x123#12) 0xF5A#12 0x03#6 = 0x123#12 := by decide +kernel
/-- V-DEN-3: dual playfield. -/
theorem test_dual_playfield :
    (dualPlayfield 0#16 0x03#6).index = 1#6 ∧ (dualPlayfield 0#16 0x03#6).other = 9#6 ∧
    (dualPlayfield 0x40#16 0x03#6).index = 9#6 ∧ (dualPlayfield 0x40#16 0x03#6).other = 1#6 := by decide +kernel
/-- V-DEN-1, V-DEN-2: the coordinates of a load of `$8001` in slot `$38`. -/
theorem test_shifter_load :
    let l := emitPlane 0x1000#16 0#16 0x38 1 0x8001#16 []
    let m := emitPlane 0x1000#16 0x0003#16 0x38 1 0x8001#16 []
    [0xDF, 0xE0, 0xE1, 0xE2, 0xFD, 0xFE, 0xFF, 0x100].map (fun x => l.getD x false) =
      [false, true, true, false, false, true, true, false] ∧
    [0xE5, 0xE6, 0x104, 0x105, 0x106].map (fun x => m.getD x false) = [false, true, true, true, false] := by
  decide +kernel
/-- V-DEN-4: the start of sprite 0, `POS = $2C40`, and a pixel of it. -/
theorem test_sprite_start :
    spriteStart 0x2C40#16 0x3C00#16 = 0x100 ∧
    spriteValue Cfg.default { Sprite.reset with ssra := 0x8000#16, ssrb := 0x8000#16, shiftCount := 32 } = 3#2 ∧
    spriteValue Cfg.default { Sprite.reset with ssra := 0x8000#16, ssrb := 0x8000#16, shiftCount := 30 } = 0#2 ∧
    pairIndex false 0 3#2 0#2 = some 19#6 := by decide +kernel
/-- V-DEN-6: the collision bits of sprite 0 over plane 1, `CLXCON = $0041`. -/
theorem test_collision :
    pixelCollisions 0x1000#16 0x0041#16 1#6 (Vector.ofFn (fun i => if i.val = 0 then 3#2 else 0#2)) = 0x0022#15 := by
  decide +kernel

/-! ### Custom registers -/

/-- V-REG-1: `DMACONR`. -/
theorem test_dmaconr :
    (after (.readDmaconr .read)
      { dma 0x03C0#16 base with blitter := { Blitter.reset with busy := true, zero := true } }).cpu.readData
      = 0x63C0#32 := by decide +kernel
/-- V-REG-2, V-REG-3: `DMACON`. -/
theorem test_dmacon_set_clear :
    (after (.writeDmacon (.write 0x0100#16)) (after (.writeDmacon (.write 0x8180#16))
      (after (.writeDmacon (.write 0x8200#16)) base))).ctl.dmacon = 0x0280#16 ∧
    (after (.writeDmacon (.write 0xE000#16)) (dma 0x0200#16 base)).ctl.dmacon = 0x0200#16 := by decide +kernel
/-- V-REG-4, V-REG-5: the beam registers. -/
theorem test_beam_reads :
    (after (.readVposr .read) (at_ 300#9 0x40#8 base)).cpu.readData = 0x8001#32 ∧
    (after (.readVhposr .read) (at_ 300#9 0x40#8 base)).cpu.readData = 0x2C40#32 ∧
    (after (.readVhposr .read) (at_ 44#9 0x81#8 base)).cpu.readData = 0x2C81#32 := by decide +kernel
/-- V-REG-7: `CLXDAT` reads, then clears. -/
theorem test_clxdat_clears :
    let s := after (.readClxdat .read) { base with denise := { base.denise with clxdat := 0x0022#15 } }
    s.cpu.readData = 0x8022#32 ∧ (after (.readClxdat .read) s).cpu.readData = 0x8000#32 := by decide +kernel
/-- V-REG-11 to V-REG-13: reads of write-only registers answer the bus value and write it. -/
theorem test_read_back_writes :
    let s := { at_ 0#9 50#8 base with
      bus := { base.bus with line := [{ slot := 49, owner := .bitplane, value := 0x1234#16 }] } }
    let t := { at_ 0#9 8#8 (dma 0x0380#16 base) with
      bus := { base.bus with line := [{ slot := 7, owner := .copper, value := 0x0180#16 }] } }
    (after (.writeColor00 .read) s).cpu.readData = 0x1234#32 ∧
    (after (.writeColor00 .read) s).pending = [{ due := 1#64, off := 0x180, value := 0x1234#16 }] ∧
    (after (.writeColor00 .read) (at_ 0#9 50#8 base)).cpu.readData = 0xFFFF#32 ∧
    (after (.writeDmacon .read) t).cpu.readData = 0x0180#32 ∧
    (after (.writeDmacon .read) t).ctl.dmacon = 0x0200#16 := by decide +kernel
/-- V-REG-15: a Denise strobe. -/
theorem test_strobe_read : (after (.writeStrvbl .read) base).cpu.readData = 0xFFFF#32 := by decide +kernel
/-- V-REG-20, V-DDF-6: masked writes. -/
theorem test_masked_writes :
    (after (.writeBltamod (.write 0xFFFB#16)) base).blitter.bltamod = 0xFFFA#16 ∧
    (after (.writeDdfstrt (.write 0x003F#16)) base).window.ddfstrt = 0x003C#16 := by decide +kernel
/-- V-S4: `INTREQ = $8040`, then `INTENA = $C040`: level 3. -/
theorem test_scenario_s4 :
    let s := after (.writeIntreq (.write 0x8040#16)) base
    let t := after (.writeIntena (.write 0xC040#16)) s
    s.ctl.intreq = 0x0040#16 ∧ s.ctl.ipl = 0#3 ∧ t.ctl.intena = 0x4040#16 ∧ t.ctl.ipl = 3#3 := by decide +kernel
/-- V-REG-18: a colour write is applied in the next slot, with its log entry at the slot's coordinate. -/
theorem test_colour_delayed :
    (applyDue (due 0x180 0xFF00#16 (at_ 60#9 101#8 base))).denise.color[0] = 0xF00#12 ∧
    (applyDue (due 0x180 0xFF00#16 (at_ 60#9 101#8 base))).denise.colLog =
      [{ trigger := 404, addr := 0x180, value := 0x0F00#16 }] := by decide +kernel

/-! ### Copper -/

/-- V-COP-1: a MOVE to a delayed register queues the write; the Copper fetches. -/
theorem test_move_colour :
    let t := after (.copperMove 0xC0#8 0x0F00#16) { base with copper := { Copper.reset with st := .execute } }
    t.pending = [{ due := 1#64, off := 0x180, value := 0x0F00#16 }] ∧ t.copper.st = .fetch1 := by decide +kernel
/-- V-COP-2 to V-COP-6: protection. -/
theorem test_move_protection :
    let s := { base with copper := { Copper.reset with st := .execute } }
    let d := { base with copper := { Copper.reset with st := .execute, cdang := true } }
    (after (.copperMove 0x20#8 0x01F0#16) s).copper.st = .halted ∧
    (after (.copperMove 0x20#8 0x01F0#16) s).blitter.bltcon0 = 0#16 ∧
    (after (.copperMove 0x20#8 0x01F0#16) d).blitter.bltcon0 = 0x01F0#16 ∧
    (after (.copperMove 0x3F#8 0#16) s).copper.st = .halted ∧
    (after (.copperMove 0x40#8 5#16) s).copper.cop1lc = 0x50000#32 ∧
    (after (.copperMove 0x17#8 2#16) d).copper.st = .halted := by decide +kernel
/-- V-COP-7: a jump strobe starts a halted Copper. -/
theorem test_copjmp1 :
    (after (.writeCopjmp1 (.write 0#16))
      { base with copper := { Copper.reset with st := .halted, cop1lc := 0x1000#32, skipNext := true } }).copper =
      { Copper.reset with cop1lc := 0x1000#32, pc := 0x1000#32 } := by decide +kernel
/-- V-COP-8, V-COP-9: SKIP (150, 0) on lines 200 and 100. -/
theorem test_skip :
    (after (.copperSkip 150#8 0#7 true 127#7 127#7) (at_ 200#9 0#8 base)).copper.skipNext = true ∧
    (after (.copperSkip 150#8 0#7 true 127#7 127#7) (at_ 100#9 0#8 base)).copper.skipNext = false := by
  decide +kernel
/-- A skipped instruction is fetched and discarded (rule R279). -/
theorem test_skipped_fetch :
    (copperFetch { base with copper := { Copper.reset with st := .fetch2, skipNext := true } }).copper.st = .skipped ∧
    (copperFetch { base with copper := { Copper.reset with st := .fetch2, skipNext := true } }).copper.skipNext = false
    := by decide +kernel

/-! ### Blitter -/

/-- The first word of P5 from its state after the fetch: `BC4` holds A and D with the exclusive fill, descending,
and moves to the next word; the locked D writes nothing. -/
theorem test_micro_fill_word :
    let s := { base with blitter := { Blitter.reset with
      bltcon0 := 0x09F0#16, bltcon1 := 0x0012#16, bltafwm := 0xFFFF#16, bltalwm := 0xFFFF#16,
      bltdpt := 0x6006#32, anew := 0x0080#16, x := 2, w := 2, y := 2, hgt := 2, colD := 2, pc := 1,
      lockD := true, busy := true, zero := true, prog := some [0x008#16, 0xBC4#16, 0x001#16, 0x404#16] } }
    let t := after (.uopWriteD 0x0BC0#16) s
    t.blitter.dhold = 0xFF80#16 ∧ t.blitter.fillCarry = true ∧ t.blitter.lockD = false ∧ t.blitter.zero = false ∧
    t.blitter.x = 1 ∧ t.blitter.pc = 0 ∧ t.mem = s.mem ∧ t.blitter.bltdpt = 0x6006#32 := by decide +kernel
/-- The last word of P5: `404` writes D and ends the blit. -/
theorem test_micro_bltdone :
    let s := { base with ctl := { base.ctl with intena := 0x4040#16 }, blitter := { Blitter.reset with
      bltcon1 := 0x0012#16, bltdpt := 0x6000#32, dhold := 0x1FFF#16, w := 2, colD := 1, busy := true,
      prog := some [0x404#16] } }
    let t := after (.uopWriteD 0x0400#16) s
    t.mem.chip = [(0x6000, 0x1F#8), (0x6001, 0xFF#8)] ∧ t.blitter.bltdpt = 0x5FFE#32 ∧ t.blitter.busy = false ∧
    t.blitter.prog = none ∧ t.ctl.intreq = 0x0040#16 ∧ t.ctl.ipl = 3#3 := by decide +kernel
/-- A fetch with the modulo at the end of a row (rule R305), and V-MEM-6: the pointer wraps. -/
theorem test_micro_fetch :
    let s := { base with
      mem := { base.mem with chip := [(0x7FFFE, 0x12#8), (0x7FFFF, 0x34#8)] },
      blitter := { Blitter.reset with bltapt := 0x7FFFE#32, bltamod := 4#16, w := 3, colA := 1 } }
    let t := after (.uopFetchA 0#16) s
    t.blitter.anew = 0x1234#16 ∧ t.blitter.bltapt = 4#32 ∧ t.blitter.colA = 3 := by decide +kernel
/-- A launch with `BLTSIZE = $0084` (P3). -/
theorem test_launch :
    let s := { base with blitter := { Blitter.reset with bltcon0 := 0x0FFA#16 } }
    let t := after (.writeBltsize (.write 0x0084#16)) s
    t.blitter.prog = some [0x008#16, 0x010#16, 0x020#16, 0x9C4#16, 0x001#16, 0x404#16] ∧ t.blitter.w = 4 ∧
    t.blitter.hgt = 2 ∧ t.blitter.busy = true ∧ t.blitter.zero = true ∧ t.blitter.lockD = true := by decide +kernel
/-- The fast path of P5: one word of the area fill, at launch (`W = H = 1`). -/
theorem test_fast_path :
    let s := { base with
      cfg := { Cfg.default with accuracy := .fast }, mem := { base.mem with chip := [(0x6007, 0x80#8)] },
      blitter := { Blitter.reset with
        bltcon0 := 0x09F0#16, bltcon1 := 0x0012#16, bltafwm := 0xFFFF#16,
        bltalwm := 0xFFFF#16, bltapt := 0x6006#32, bltdpt := 0x6006#32 } }
    let t := after (.writeBltsize (.write 0x0041#16)) s
    t.mem.chip = [(0x6006, 0xFF#8), (0x6007, 0x80#8)] ∧ t.blitter.busy = true ∧ t.blitter.bltdpt = 0x6004#32 ∧
    t.blitter.prog = some [0x002#16, 0x802#16, 0x001#16, 0x402#16] := by decide +kernel
/-- The line of rule R364: words `$10000 = $C000`, `$10028 = $3000`, and its end state. -/
theorem test_line :
    let s := { base with blitter := { Blitter.reset with
      bltcon0 := 0x0BCA#16, bltcon1 := 0x0051#16, bltafwm := 0xFFFF#16, bltapt := 0x0FFFE#32,
      bltcpt := 0x10000#32, bltdpt := 0x10000#32, bltamod := 0xFFF8#16, bltbmod := 4#16, bltcmod := 40#16,
      anew := 0x8000#16, bnew := 0xFFFF#16 } }
    let t := after (.writeBltsize (.write 0x0102#16)) s
    t.mem.chip = [(0x10000, 0xC0#8), (0x10028, 0x30#8)] ∧ t.blitter.bltcon0 = 0x4BCA#16 ∧
    t.blitter.bltcon1 = 0xC011#16 ∧ t.blitter.bltapt = 0x10002#32 ∧ t.blitter.bltcpt = 0x10028#32 ∧
    t.blitter.bltdpt = 0x10028#32 ∧ t.blitter.prog = some lineProgram ∧ t.blitter.y = 4 := by decide +kernel

/-! ### Arbitration and memory -/

/-- V-ARB-1, V-ARB-2, V-ARB-10. -/
theorem test_arbitration :
    let s := { dma 0x0290#16 base with
      bus := { base.bus with reqCPU := true },
      ext := { base.ext with disk := { DiskPort.quiet with wants := true } } }
    ownerOf (at_ 0#9 0x03#8 s) = .refresh ∧ ownerOf (at_ 0#9 0x07#8 s) = .disk ∧
    ownerOf (at_ 0#9 0x3D#8 s) = .copper ∧ ownerOf (at_ 0#9 0x40#8 s) = .cpu ∧
    ownerOf (at_ 0#9 0x20#8 base) = .none := by decide +kernel
/-- V-ARB-4, V-ARB-5: a sprite and a bitplane take the slot from the Copper. -/
theorem test_arbitration_display :
    let s := { dma 0x03A0#16 base with
      bpl := { base.bpl with bplcon0 := 0x1000#16 },
      sprites := base.sprites.set 0 { Sprite.reset with dma := .fetchData },
      window := { Window.reset with diwV := true, ddfActive := true, fetchUnitPos := 7#3 } }
    ownerOf (at_ 50#9 0x15#8 s) = .sprite ∧ ownerOf (at_ 50#9 0x3F#8 s) = .bitplane := by decide +kernel
/-- V-ARB-7, V-ARB-8: the nasty bit. -/
theorem test_arbitration_nasty :
    let s := fun (d : Word) (n : Nat) => at_ 0#9 0x42#8 { dma d base with
      bus := { base.bus with reqCPU := true, cpuWaitSlots := n },
      blitter := { Blitter.reset with busy := true, prog := some [0x008#16] } }
    ownerOf (s 0x0240#16 2) = .blitter ∧ ownerOf (s 0x0240#16 4) = .cpu ∧ ownerOf (s 0x0640#16 4) = .blitter := by
  decide +kernel
/-- V-DEC: regions by the table, with `SLOW_SIZE = 512 KiB` and `FAST_SIZE = 192 KiB`. -/
theorem test_regions :
    let c := { Cfg.default with slowSize := 0x80000, fastSize := 0x30000 }
    let s := State.cold c
    regionOf s 0x000000#24 = .rom ∧ regionOf (low s) 0x000000#24 = .chip ∧ regionOf s 0x080000#24 = .chip ∧
    regionOf s 0x230000#24 = .unmapped ∧ regionOf s 0x220000#24 = .fast ∧ regionOf s 0xBFE001#24 = .cia ∧
    regionOf s 0xC7FFFE#24 = .slow ∧ regionOf s 0xC80000#24 = .unmapped ∧ regionOf s 0xDC0000#24 = .rtc ∧
    regionOf s 0xDF0180#24 = .custom ∧ regionOf s 0xE00000#24 = .unmapped ∧ regionOf s 0xE80000#24 = .autoconf ∧
    regionOf s 0xFC0000#24 = .rom := by decide +kernel
/-- V-DEC offsets: mirrors of Chip RAM, SLOW and ROM. -/
theorem test_region_offsets :
    let c := { Cfg.default with slowSize := 0x80000 }
    regionOffset c .chip 0x080000#24 = 0 ∧ regionOffset c .chip 0x1FFFFE#24 = 0x7FFFE ∧
    regionOffset c .slow 0xC7FFFE#24 = 0x7FFFE ∧ regionOffset c .rom 0xFC0000#24 = 0x40000 ∧
    regionOffset { c with rom := some { size := 0x10000, bytes := [] } } .rom 0xF90000#24 = 0 := by decide +kernel
/-- V-MEM-1, V-MEM-3: big-endian words; an odd access is flagged and made at the even address. -/
theorem test_word_writes :
    (stateOr (write16 0x001000#24 0x1234#16 (low base)) base).mem.chip = [(0x1000, 0x12#8), (0x1001, 0x34#8)] ∧
    (stateOr (accessTransfer (.write16 0xABCD#16) 0x001001#24 (low base)) base).mem.chip =
      [(0x1000, 0xAB#8), (0x1001, 0xCD#8)] ∧
    (stateOr (accessTransfer (.write16 0xABCD#16) 0x001001#24 (low base)) base).records.violations = 1 := by
  decide +kernel
/-- V-MEM-4, V-MEM-5: an unmapped read; a write to ROM. -/
theorem test_unmapped_and_rom :
    (stateOr (read16 0x200000#24 base) base).cpu.readData = 0xFFFF#32 ∧
    (stateOr (read16 0x200000#24 base) base).records.violations = 1 ∧
    (stateOr (write16 0xF80000#24 0x5555#16 base) base) = base := by decide +kernel
/-- V-REG-8: a byte write to a custom register; V-REG-10: the second half of a long write. -/
theorem test_custom_byte_and_long :
    (stateOr (write8 0xDFF181#24 0x0F#8 base) base).pending = [{ due := 1#64, off := 0x180, value := 0x0F0F#16 }] ∧
    secondHalf (.write32 0x0ABC0DEF#32) 0xDFF180#24 base =
      [{ cost := 0, addr := 0xDFF182#32, op := .write16 0x0DEF#16 }] := by decide +kernel

/-! ### The beam and the life of the machine -/

/-- V-BEAM-2, V-BEAM-3: the end of a frame. -/
theorem test_end_of_frame :
    let s := { at_ 313#9 0#8 base with copper := { Copper.reset with cop1lc := 0x1000#32, st := .waiting } }
    let t := startOfFrame (endOfFrame s)
    let u := endOfFrame { s with bpl := { base.bpl with bplcon0 := 0x0004#16 } }
    t.beam = { v := 0#9, h := 0#8, lof := true, frame := 1#64 } ∧ t.copper.pc = 0x1000#32 ∧ t.copper.st = .fetch1 ∧
    t.ctl.intreq = 0x0020#16 ∧ u.beam.lof = false := by decide +kernel
/-- V-RST-1, V-RST-2, V-ERR-1: power-on and configuration. -/
theorem test_lifecycle :
    let off := { base with powered := false }
    (stateOr (applyInput (.powerOn true) off) off).ext.messages = [.powerOn, .memLayout] ∧
    (stateOr (applyInput (.powerOn true) { off with cfg := { Cfg.default with rom := none } }) off).ext.messages =
      [.romMissing] ∧
    (stateOr (applyInput (.configure { Cfg.default with chipSize := 0x100000 }) off) off).cfg = Cfg.default ∧
    (stateOr (applyInput (.configure { Cfg.default with chipSize := 0x100000 }) off) off).ext.messages =
      [.config] := by decide +kernel
/-- The default configuration is legal (rule R9). -/
theorem test_default_valid : Cfg.valid Cfg.default = true := by decide +kernel

/-! ### A placed instruction is the one the next step runs -/

/-- A Copper WAIT (0, 0), a micro-instruction `FETCH_A` and a write of `$0000` to `BLTCON0`, placed after
reset. -/
theorem test_placed_instructions :
    (stateOr (step (State.reset.withFetchWord 32 0x00010000)) base).copper.st = .fetch1 ∧
    (stateOr (step (State.reset.withFetchWord 8 0x08)) base).blitter.bltapt = 2#32 ∧
    (stateOr (step (State.reset.withFetchWord 16 0x006)) base).cpu.queue = [] := by decide +kernel

/-- Rule R399's pixel outside the DIW: border in `iBuffer`, the other playfield in `mBuffer` (rules R397, R420). -/
theorem test_border_other_playfield :
    let d := (borderPixel 0x03#6 { Denise.reset with rBplcon0 := 0x0400#16 }).1
    d.iBuffer = [0#6] ∧ d.mBuffer = [9#6] ∧ d.zBuffer = [.background] := by decide +kernel

/-! ### The CPU port, the collaborators and the event slots -/

/-- An instruction of 4 slots without an access, at speed 2, moves the CPU's clock by 2 and ends; the one behind it
has not begun (rules R6, R205, decision D65). -/
theorem test_cpu_instruction_without_access :
    let c : State := { base with cfg := { base.cfg with cpuSpeed := 2 } }
    let t := stateOr (cpuIssue (stateOr (applyInput (.cpu [{ accesses := [], cost := 4 }, { accesses := [], cost := 6 }]) c) c)) c
    t.bus.cpuClock = 2#64 ∧ t.cpu.queue = [{ accesses := [], cost := 6 }] := by decide +kernel

/-- The slots an instruction reports after its last access follow the 2 slots of the access (rules R8, R205). -/
theorem test_cpu_cost_after_access :
    let q : List CpuInstr := [{ accesses := [{ cost := 0, addr := 0xF80000#32, op := .read16 }], cost := 5 }]
    (stateOr (cpuIssue { base with cpu := { base.cpu with queue := q } }) base).bus.cpuClock = 7#64 := by
  decide +kernel

/-- `$BFE001` selects CIA-A register 0, `$BFD500` CIA-B register 5 (rule R115). -/
theorem test_cia_selection :
    (stateOr (read8 0xBFE001#24 (low base)) base).ext.forwards = [.ioRead (.cia true false 0#4) 0xBFE001#24 1] ∧
    (stateOr (write8 0xBFD500#24 7#8 (low base)) base).ext.forwards =
      [.ioWrite (.cia false true 5#4) 0xBFD500#24 1 7#16] := by decide +kernel

/-- A spy read at an odd address is that of the even address below (rules R13, R109). -/
theorem test_spy_odd_address :
    spyRead16 0x001001#24 (low { base with mem := { base.mem with chip := [(0x1000, 0x12#8), (0x1001, 0x34#8)] } }) =
      0x1234#16 := by decide +kernel

/-- A due event of a collaborator is handed to it and its slot is idle again (rules R207, R209, R210). -/
theorem test_foreign_event_served :
    let s := stateOr (applyInput (.schedule 12 0#64 9#16) base) base
    let t := stateOr (serveEvents .none lateSlots s) base
    s.events.primaryTrigger = 0#64 ∧ t.ext.forwards = [.event 12 (.other 9#16) 0#64] ∧
    t.events.slots[12] = Event.idle ∧ t.events.primaryTrigger = neverTrigger := by decide +kernel

/-- A chip memory access replaces the value of the slot's owner, and leaves a slot without an owner alone (rules
R33, R118). -/
theorem test_chip_access_records_value :
    (chipWrite16 2#32 7#16 { at_ 0#9 5#8 base with
      bus := { base.bus with line := [{ slot := 5, owner := .refresh, value := 0xFFFF#16 }] } }).bus.line =
      [{ slot := 5, owner := .refresh, value := 7#16 }] ∧
    (chipWrite16 2#32 7#16 (at_ 0#9 5#8 base)).bus.line = [] := by decide +kernel

/-- With `LOF` cleared in line 312 of a long frame the frame ends with that line, so `v` is back in its range (rules
R11, R32; log entry 9). -/
theorem test_frame_end_after_vposw :
    let s := at_ 312#9 226#8 base
    (beamAdvance { s with beam := { s.beam with lof := false } }).beam.v = 0#9 := by decide +kernel

/-! ### Witnesses: for every statement with hypotheses, a concrete input that meets them -/

/-- `BytesRoundTrip`. -/
theorem witness_BytesRoundTrip : wellFormed (.uopWriteD 0x09C0#16) = true := by decide

/-- `DecodedIsWellFormed`. -/
theorem witness_DecodedIsWellFormed :
    decodeBytes .registerRead [0x01#8, 0xFE#8] = .ok (.accessUnimplementedOffset 0x1FE#9 .read, []) := by decide

/-- `MicroWordsRefused`: each of its three ways, at a boundary. -/
theorem witness_MicroWordsRefused :
    (0x0021#16).getLsbD 0 = true ∧ (0x0021#16).getLsbD 5 = true ∧
    (0x0200#16).getLsbD 9 = true ∧ (0x0200#16).getLsbD 8 = false ∧ 0x1000 ≤ (0x1000#16).toNat := by decide

/-- A quiet machine with a DMACON value at a slot. -/
def quietAt (h : BitVec 8) (d : Word) : State := at_ 10#9 h (dma d base)

/-- The Copper executing WAIT (0, 0). -/
def copperExecuting : State :=
  { quietAt 0x41#8 0x0280#16 with
    copper := { Copper.reset with st := .execute, ir1 := 0x0001#16, ir2 := 0xFFFE#16 } }

/-- `StepRunsCopperInstruction`. -/
theorem witness_StepRunsCopperInstruction :
    Quiet copperExecuting ∧ copperExecuting.copper.st = .execute ∧ copperSlot copperExecuting = true ∧
    decode (.copper copperExecuting.copper.ir1 copperExecuting.copper.ir2) =
      .ok (.copperWait 0#8 0#7 true 127#7 127#7) ∧
    reqBlitter (windowTick copperExecuting) = false := by unfold Quiet; decide +kernel

/-- A blit about to execute a word. -/
def blitting (w : Word) : State :=
  { quietAt 0x42#8 0x0240#16 with blitter := { Blitter.reset with busy := true, prog := some [w] } }

/-- `StepRunsMicroInstruction`, a word that holds the bus. -/
theorem witness_StepRunsMicroInstruction_bus :
    Quiet (blitting 0x0008#16) ∧ blitterInst (windowTick (blitting 0x0008#16)).blitter = some 0x0008#16 ∧
    decode (.micro 0x0008#16) = .ok (.uopFetchA 0#16) ∧
    ownerOf (windowTick (blitting 0x0008#16)) = .blitter ∧ copperSlot (windowTick (blitting 0x0008#16)) = false ∧
    eventDue slotCopper (windowTick (blitting 0x0008#16)) = false := by unfold Quiet; decide +kernel

/-- What `StepRunsMicroInstruction` asks for a word that needs no bus, in a slot of an owner. -/
def InternalIn (o : BusOwner) (w : Word) (s : State) : Prop :=
  s.powered = true ∧ s.ext.inputs = [] ∧ NoEarlyEvent s ∧ (s.bus.reqCPU = true ∨ s.cpu.queue = []) ∧
  blitterInst (windowTick s).blitter = some w ∧ ownerOf (windowTick s) = o ∧ s.blitter.busy = true ∧
  (windowTick s).ctl.dmacon.getLsbD 9 = true ∧ (windowTick s).ctl.dmacon.getLsbD 6 = true ∧
  (windowTick s).beam.h.toNat % 2 = 0 ∧ w &&& 0x003E#16 = 0#16 ∧
  (w.getLsbD 0 = true → busIsFree (windowTick s) = true) ∧
  copperSlot (windowTick s) = false ∧ eventDue slotCopper (windowTick s) = false

/-- A blit beside a CPU access that waits for the bus (V-ARB-12). -/
def blittingBesideCpu (w : Word) : State :=
  { blitting w with
    bus := { base.bus with reqCPU := true }
    cpu := { base.cpu with queue := [{ accesses := [registerAccess 0x002#9 .read], cost := 0 }] } }

/-- A blit in a slot that a bitplane takes. -/
def blittingBesideBitplane (w : Word) : State :=
  { quietAt 0x40#8 0x0340#16 with
    window := { base.window with ddfLatched := true, diwV := true, ddfStart := 0x3F, ddfBlocks := 20 }
    bpl := { base.bpl with bplcon0 := 0x4000#16 }
    blitter := { Blitter.reset with busy := true, prog := some [w] } }

/-- `StepRunsMicroInstruction`, a word that needs no bus: in an idle slot, in the CPU's (V-ARB-12) and beside a
bitplane fetch. -/
theorem witness_StepRunsMicroInstruction_internal :
    InternalIn .none 0x0001#16 (blitting 0x0001#16) ∧ InternalIn .cpu 0x0001#16 (blittingBesideCpu 0x0001#16) ∧
    InternalIn .bitplane 0x0400#16 (blittingBesideBitplane 0x0400#16) ∧
    decode (.micro 0x0001#16) = .ok (.uopBusidle 0#16) ∧ decode (.micro 0x0400#16) = .ok (.uopBltdone 0#16) ∧
    answers (cpuTransfer (arbitrate (windowTick (blittingBesideCpu 0x0001#16)))) = true ∧
    eventDue slotBlitter (stateOr (cpuTransfer (arbitrate (windowTick (blittingBesideCpu 0x0001#16)))) base) = true := by
  refine ⟨?_, ?_, ?_, by decide +kernel⟩ <;> (unfold InternalIn; decide +kernel)

/-- V-ARB-12: `BUSIDLE` executes in the CPU's slot; the `BLTDONE` word executes beside another owner (rule R322). -/
theorem test_internal_words_beside_an_owner :
    (let t := stateOr (step (blittingBesideCpu 0x0001#16)) base
     t.blitter.pc = 1 ∧ t.bus.reqCPU = false) ∧
    (let t := stateOr (step (blittingBesideBitplane 0x0400#16)) base
     t.blitter.busy = false ∧ t.ctl.intreq.getLsbD 6 = true) := by decide +kernel

/-- A Blitter slot that is a Copper slot too (`COPPER_PARITY` even): the word `$0404` in it, and a Copper that waits
for the Blitter alone. -/
def blitEnding : State :=
  { blitting 0x0404#16 with
    cfg := { Cfg.default with copperParity := .even }
    ctl := { base.ctl with dmacon := 0x02C0#16 }
    copper := { Copper.reset with st := .waiting, ir1 := 0x0001#16, ir2 := 0x7FFE#16 } }

/-- Rules R132, R318: the WAIT does not wake in the `BLTDONE` slot, and wakes in the next Copper slot. -/
theorem test_wait_for_blitter :
    let t := stateOr (step blitEnding) blitEnding
    let u := stateOr (step t) t
    let v := stateOr (step u) u
    ownerOf (windowTick blitEnding) = .blitter ∧ copperSlot (windowTick blitEnding) = true ∧
    t.blitter.busy = false ∧ t.blitter.prog = none ∧ t.ctl.intreq.getLsbD 6 = true ∧
    t.copper.st = .waiting ∧ u.copper.st = .waiting ∧ v.copper.st = .fetch1 := by decide +kernel

/-- A CPU access waiting for the bus. -/
def accessing (off : RegOff) (op : RegOp) : State :=
  { quietAt 0x40#8 0#16 with
    bus := { base.bus with reqCPU := true }, cpu := { base.cpu with queue := [{ accesses := [registerAccess off op], cost := 3 }] } }

/-- `StepRunsRegisterAccess`, at the first and the last offset, a write and a read. -/
theorem witness_StepRunsRegisterAccess :
    (∀ x ∈ [((0x000#9 : RegOff), RegOp.write 1#16), (0x1FE#9, .read)],
      (accessing x.1 x.2).powered = true ∧ (accessing x.1 x.2).ext.inputs = [] ∧
      NoEarlyEvent (accessing x.1 x.2) ∧ (accessing x.1 x.2).bus.reqCPU = true ∧
      (accessing x.1 x.2).cpu.queue = [{ accesses := [registerAccess x.1 x.2], cost := 3 }] ∧ x.1.getLsbD 0 = false ∧
      (accessing x.1 x.2).mem.memSrc.getD 0xDF .unmapped = .custom ∧
      ownerOf (windowTick (accessing x.1 x.2)) = .cpu) ∧
    decode (.register 0x000#9 (.write 1#16)) = .ok (.writeBltddat (.write 1#16)) ∧
    decode (.register 0x1FE#9 .read) = .ok (.accessUnimplementedOffset 0x1FE#9 .read) := by decide +kernel

/-- A machine with every memory in use, about to store a word with the Blitter. -/
def busyMachine : State :=
  { blitting 0x0404#16 with
    mem := { base.mem with chip := [(2, 1#8), (3, 2#8)], slow := [(0, 7#8)], fast := [(9, 9#8)], wom := [(1, 3#8)] },
    ctl := { base.ctl with dmacon := 0x0240#16, intena := 0x4040#16 },
    blitter := { Blitter.reset with busy := true, prog := some [0x0404#16], dhold := 0x1234#16, bltdpt := 2#32 } }

/-- `StepKeepsMemoryCanonical`, `StepKeepsLevelPushed`, `StepKeepsTableBuilt`, `StepKeepsPointersEven`,
`StepKeepsBusExclusive`, `StepAlwaysAnswers`, `StepAdvancesClock`: a state that meets their hypotheses, whose
step answers a next state that differs in memory, level and bus record. -/
theorem witness_StepKeeps :
    MemoryCanonical busyMachine ∧ LevelPushed busyMachine ∧ TableBuilt busyMachine ∧ BusExclusive busyMachine ∧
    busyMachine.powered = true ∧ busyMachine.ext.inputs = [] ∧ answers (step busyMachine) = true ∧
    (stateOr (step busyMachine) base).mem.chip = [(2, 0x12#8), (3, 0x34#8)] ∧
    (stateOr (step busyMachine) base).ctl.ipl = 3#3 ∧
    (stateOr (step busyMachine) base).bus.line = [{ slot := 0x42, owner := .blitter, value := 0x1234#16 }] := by
  unfold MemoryCanonical LevelPushed TableBuilt BusExclusive
  decide +kernel

/-- `StepKeepsPointersEven`. -/
theorem witness_StepKeepsPointersEven : PointersEven busyMachine where
  coppc := by unfold Even32; decide +kernel
  cop1lc := by unfold Even32; decide +kernel
  cop2lc := by unfold Even32; decide +kernel
  bltapt := by unfold Even32; decide +kernel
  bltbpt := by unfold Even32; decide +kernel
  bltcpt := by unfold Even32; decide +kernel
  bltdpt := by unfold Even32; decide +kernel
  bltmod := by unfold Even16; decide +kernel
  bplmod := by unfold Even16; decide +kernel
  bplpt := by unfold Even32; decide +kernel
  sprpt := by unfold Even32; decide +kernel

/-- `StepAlwaysAnswers`. -/
theorem witness_StepAlwaysAnswers : ProgramsWellFormed busyMachine := by
  constructor
  · exact defaultBltProgram_wellFormed
  · intro p h
    have e : busyMachine.blitter.prog = some [0x0404#16] := by decide +kernel
    rw [e] at h
    obtain rfl := Option.some.inj h
    intro w hw
    obtain rfl := List.mem_singleton.1 hw
    decide

/-- `StepAlwaysAnswers`, the fault: a power-on whose allocation fails. -/
theorem witness_StepAlwaysAnswers_fault :
    answers (step { base with
      powered := false, ext := { base.ext with inputs := [{ wait := 0, input := .powerOn false }] } }) = false := by
  decide +kernel

/-- `Overlay`, `PowerOnAndReset`: a powered machine with its table built. -/
theorem witness_Overlay : busyMachine.powered = true ∧ TableBuilt busyMachine := by
  unfold TableBuilt
  decide +kernel

/-- `PowerOnAndReset`: off, with and without a ROM. -/
theorem witness_PowerOnAndReset :
    ({ base with powered := false } : State).powered = false ∧
    ({ base with powered := false } : State).cfg.rom ≠ none ∧
    ({ base with powered := false, cfg := { Cfg.default with rom := none } } : State).cfg.rom = none := by decide

/-- `Configure`: off and legal, on, illegal. -/
theorem witness_Configure :
    ({ base with powered := false } : State).powered = false ∧ Cfg.valid { Cfg.default with slowSize := 0x80000 } = true ∧
    base.powered = true ∧ Cfg.valid { Cfg.default with dmaAddrBits := 16 } = false := by decide +kernel

/-- `RaiseIrq`: the lowest and the highest bit, clear and set. -/
theorem witness_RaiseIrq :
    (raiseIrq 0 base).ctl.intreq = 0x0001#16 ∧ (raiseIrq 14 base).ctl.intreq = 0x4000#16 ∧
    (raiseIrq 14 base).ctl.intreq.getLsbD 14 = true ∧ LevelPushed (raiseIrq 14 base) := by
  unfold LevelPushed
  decide +kernel

/-- `BusValue`: slot 0; a DMA owner and a CPU in the slot before; no owner in the slot before. -/
theorem witness_BusValue :
    busQuirk (at_ 0#9 0#8 base) = 0xFFFF#16 ∧
    busQuirk { at_ 0#9 1#8 base with
      bus := { base.bus with line := [{ slot := 0, owner := .copper, value := 5#16 }] } } = 5#16 ∧
    busQuirk { at_ 0#9 226#8 base with
      bus := { base.bus with line := [{ slot := 225, owner := .cpu, value := 5#16 }] } } = 0xFFFF#16 ∧
    busQuirk (at_ 0#9 226#8 base) = 0xFFFF#16 := by decide +kernel

/-- `UnimplementedAccess`, at the bounds of class `-`. -/
theorem witness_UnimplementedAccess :
    unimplementedOffset 0x05A#9 = true ∧ unimplementedOffset 0x1FE#9 = true := by decide

/-- `PointerHalves`: the narrowest and the widest pointers, at the bits where the halves meet. -/
theorem witness_PointerHalves :
    setPtrHigh { Cfg.default with dmaAddrBits := 17 } 0xFFFF#16 0xFFFE#32 = 0x1FFFE#32 ∧
    setPtrHigh { Cfg.default with dmaAddrBits := 32 } 0xFFFF#16 0#32 = 0xFFFF0000#32 ∧
    setPtrLow 0xFFFF#16 0x10000#32 = 0x1FFFE#32 := by decide +kernel

/-- `ColourWriteApplies`, `SpriteWriteApplies`, `SpriteControlApplies`, `DisplayWriteApplies`: a write due, for the
first and the last register of each. -/
theorem witness_OneWriteDue (off : Nat) (v : Word) : OneWriteDue off v (due off v base) := by
  constructor
  · rfl
  · rfl

/-- Its event is due (`ColourWriteApplies` and the others of its kind). -/
theorem witness_OneWriteDue_event : eventDue slotReg (due 0x180 1#16 base) = true := by decide +kernel

/-- The write due is applied: `COLOR31`, `SPR7DATB`, `BPL6DAT`. -/
theorem witness_writes_apply :
    (applyDue (due 0x1BE 0xFABC#16 base)).denise.color[31] = 0xABC#12 ∧
    (applyDue (due 0x17E 0x1234#16 base)).sprites[7].datb = 0x1234#16 ∧
    (applyDue (due 0x15A 0x0086#16 base)).sprites[2].attach = true ∧
    (applyDue (due 0x11A 0x1234#16 base)).bpl.bpldat[5] = 0x1234#16 ∧
    (applyDue (due 0x110 0x1234#16 base)).bpl.loadPending = true := by decide +kernel

/-- `CopperMove`: both sides of `$040` and of `$080`. -/
theorem witness_CopperMove :
    2 * (0x1F#8).toNat < 0x40 ∧ (0x40 ≤ 2 * (0x20#8).toNat ∧ 2 * (0x3F#8).toNat < 0x80) ∧
    0x80 ≤ 2 * (0x40#8).toNat ∧ copperExecuting.copper.cdang = false ∧ copperExecuting.copper.st = .execute := by
  decide

/-- `CopperFetches`: the two states. -/
theorem witness_CopperFetches :
    base.copper.st = .fetch1 ∧ (copperFetch base).copper.st = .fetch2 := by decide +kernel

/-- `Minterm`, `BarrelShift`, `AreaFill`: the last bit and the longest shift. -/
theorem witness_BitIndex : 15 < 16 ∧ barrelShift true 1#16 0#16 15 = 0x8000#16 := by decide

/-- `MicroWordEffect`, `MicroInstructionsRun`: a word with and without `BLTDONE`. -/
theorem witness_MicroWordEffect :
    decode (.micro 0x0BC4#16) = .ok (.uopWriteD 0x0BC0#16) ∧ decode (.micro 0x0404#16) = .ok (.uopWriteD 0x0400#16) ∧
    (0x0BC0#16).getLsbD 10 = false := by decide

/-- `ProgramRows`, `BltsizeLaunches`, `BlitLengthLaw`, `FastEqualsAccurate`: the default table; area and line
mode; both accuracies. -/
theorem witness_Blits :
    base.cfg.bltProgram = defaultBltProgram ∧ base.cfg.accuracy = .accurate ∧
    base.blitter.bltcon1.getLsbD 0 = false ∧ (0x0001#16).getLsbD 0 = true ∧
    ({ Cfg.default with accuracy := .fast } : Cfg).accuracy = .fast := by decide +kernel

/-- `LinePixel`: the default and the widest pointers. -/
theorem witness_LinePixel :
    base.cfg.dmaAddrBits ≤ 32 ∧ ({ Cfg.default with dmaAddrBits := 32 } : Cfg).dmaAddrBits ≤ 32 := by decide

/-- A machine with every kind of storage. -/
def stored : State :=
  low (State.cold { Cfg.default with
    slowSize := 0x40000, fastSize := 0x30000, bootRom := some { size := 0x2000, bytes := [] } })

/-- `WriteReadRoundTrip`: the last word of Chip RAM, SLOW, FAST and the WOM. -/
theorem witness_WriteReadRoundTrip :
    MemoryCanonical stored ∧ Cfg.valid stored.cfg = true ∧ regionOf stored 0x1FFFFE#24 = .chip ∧
    regionOf stored 0xC3FFFE#24 = .slow ∧ regionOf stored 0x22FFFE#24 = .fast ∧
    regionOf stored 0xFFFFFE#24 = .wom ∧ stored.mem.womLocked = false := by
  unfold MemoryCanonical
  decide +kernel

/-- `FlaggedAccesses`: an odd address; an even unmapped one. -/
theorem witness_FlaggedAccesses :
    (0xFFFFFF#24).getLsbD 0 = true ∧ (0x200000#24).getLsbD 0 = false ∧
    base.mem.memSrc.getD ((0x200000#24).toNat / 0x10000) .unmapped = .unmapped := by decide +kernel

/-- `ArbiterPriority`: the CPU kept waiting for three slots, a Blitter that may not take the slot, a refresh slot
that the Copper requests too, an audio slot that the Copper requests too. -/
theorem witness_ArbiterPriority :
    ownerOf (quietAt 0x03#8 0x0280#16) = .refresh ∧ reqCopper (quietAt 0x03#8 0x0280#16) = true ∧
    (let a : State := quietAt 0x0F#8 0x0282#16
     ownerOf { a with ext := { a.ext with audio := a.ext.audio.set 1 { wants := true, ptr := 0 } } } = .audio ∧
     ownerOf a = .copper) ∧
    ownerOf { blitting 0x0008#16 with bus := { base.bus with reqCPU := true, cpuWaitSlots := 3 } } = .cpu ∧
    ownerOf (blitting 0x0008#16) = .blitter ∧ ownerOf base = .none ∧
    base.cfg.slotMap.refresh.contains (at_ 0#9 0xE2#8 base).beam.h.toNat = true := by decide +kernel

/-- `BeamAdvances`: the last slots of a line, of a frame, and the slot before. -/
theorem witness_BeamAdvances :
    (at_ 0#9 225#8 base).beam.h.toNat + 1 ≠ base.cfg.lineSlots ∧
    (at_ 311#9 226#8 base).beam.h.toNat + 1 = base.cfg.lineSlots ∧
    (at_ 311#9 226#8 base).beam.v.toNat + 1 < frameLines base ∧
    frameLines base ≤ (at_ 312#9 226#8 base).beam.v.toNat + 1 ∧
    Cfg.valid base.cfg = true ∧ (at_ 312#9 226#8 base).beam.h.toNat < base.cfg.lineSlots ∧
    (at_ 312#9 226#8 base).beam.v.toNat < frameLines base := by decide +kernel

/-- `ShifterEmits`: the first plane in low resolution, the last one in high, and a plane above the count. -/
theorem witness_ShifterEmits :
    1023 < hpixels ∧ 1 ≤ planeCount ((0x1000#16).getLsbD 15) 0x1000#16 ∧
    4 ≤ planeCount ((0xC000#16).getLsbD 15) 0xC000#16 ∧ ¬ 5 ≤ planeCount ((0xC000#16).getLsbD 15) 0xC000#16 := by decide +kernel

/-- `BorderPixel`: a pixel outside the window. -/
theorem witness_BorderPixel : (base.window.diwV && base.denise.rDiwH) = false := by decide

end Sys2Proof.Tests
end

section
/-! The host's configuration (rules R9, R10, R535, R564): the two ways in which `configure` answers, and the
obligation about it. -/

namespace Sys2Proof.Machine

variable {s : State} {c : Cfg}

/-- While powered off, a legal configuration replaces the one before and the region table is rebuilt from it. -/
theorem configure_of_off_of_valid (hoff : s.powered = false) (hlegal : Cfg.valid c = true) :
    configure c s = rebuildMemSrc { s with cfg := c } := by
  simp [configure, hoff, hlegal]

/-- While powered, or when illegal, a configuration only makes the machine send `CONFIG`. -/
theorem configure_of_on_or_invalid (h : s.powered = true ∨ Cfg.valid c = false) :
    configure c s = notify .config s := by
  rcases h with hon | hillegal
  · simp [configure, hon]
  · simp [configure, hillegal]

end Sys2Proof.Machine

namespace Sys2Proof.Scope

open Sys2Proof.Machine

/-- Settles O19: the two ways in which `configure` answers, under the input that carries it. -/
theorem configure : Obligations.Configure := by
  intro s c
  constructor
  · rintro ⟨hoff, hlegal⟩
    exact congrArg Host.Outcome.next (configure_of_off_of_valid hoff hlegal)
  · intro hrefused
    exact congrArg Host.Outcome.next (configure_of_on_or_invalid hrefused)

end Sys2Proof.Scope
end

section
/-! SUPPORT. What a slot can do to the clock, the configuration and the DMA pointers, said once for every operation of
a slot (`Steady`), and the two statements about a step that follow from it. -/

namespace Sys2Proof.Machine

/-! ### Even pointers and modulos -/

/-- Evenness as arithmetic. -/
theorem even32_iff (p : Ptr) : Even32 p ↔ p.toNat % 2 = 0 := by
  simp [Even32, BitVec.getLsbD, Nat.testBit_zero]

/-- Even pointers add to an even pointer. -/
theorem even32_add {p q : Ptr} (hp : Even32 p) (hq : Even32 q) : Even32 (p + q) := by
  rw [even32_iff] at *
  rw [BitVec.toNat_add]
  omega

/-- The negation of an even pointer is even. -/
theorem even32_neg {p : Ptr} (hp : Even32 p) : Even32 (-p) := by
  rw [even32_iff] at *
  rw [BitVec.toNat_neg]
  omega

/-- Rule R119 keeps pointers even, whatever `DMA_ADDR_BITS` is: the mask only clears bits. -/
theorem even32_ptrAdd (c : Cfg) {p d : Ptr} (hp : Even32 p) (hd : Even32 d) : Even32 (ptrAdd c p d) := by
  have h : (p + d).getLsbD 0 = false := even32_add hp hd
  simp only [Even32, ptrAdd, BitVec.getLsbD_and, h, Bool.false_and]

/-- The increment of a DMA fetch is even. -/
theorem even32_two : Even32 2#32 := by unfold Even32; decide

/-- The decrement of a descending transfer is even. -/
theorem even32_minusTwo : Even32 0xFFFFFFFE#32 := by unfold Even32; decide

/-- A high half leaves bit 0 as it was. -/
theorem even32_setPtrHigh (c : Cfg) (v : Word) {p : Ptr} (hp : Even32 p) : Even32 (setPtrHigh c v p) := by
  unfold Even32 at *
  simp only [setPtrHigh, BitVec.getLsbD_or, BitVec.getLsbD_and, BitVec.getLsbD_shiftLeft, hp]
  simp

/-- A low half clears bit 0. -/
theorem even32_setPtrLow (v : Word) (p : Ptr) : Even32 (setPtrLow v p) := by
  simp [Even32, setPtrLow]

/-- A write of either half keeps a pointer even (rule R161). -/
theorem even32_pointerHalf (c : Cfg) (low : Bool) (v : Word) {p : Ptr} (hp : Even32 p) :
    Even32 (pointerHalf c low v p) := by
  cases low
  · exact even32_setPtrHigh c v hp
  · exact even32_setPtrLow v p

/-- A modulo as written is even. -/
theorem even16_modulo (v : Word) : Even16 (modulo v) := by
  simp [Even16, modulo]

/-- The byte offset of an even modulo is even. -/
theorem even32_moduloOffset {m : Word} (h : Even16 m) : Even32 (moduloOffset m) := by
  unfold Even32 Even16 at *
  simp only [moduloOffset, BitVec.getLsbD_signExtend, h]
  simp

/-- The Blitter's increment is even in both directions. -/
theorem even32_blitIncr (con1 : Word) : Even32 (blitIncr con1) := by
  unfold blitIncr
  split
  · exact even32_minusTwo
  · exact even32_two

/-- The Blitter's end-of-row step is even in both directions. -/
theorem even32_blitModuloStep (con1 : Word) {m : Word} (h : Even16 m) : Even32 (blitModuloStep con1 m) := by
  unfold blitModuloStep
  split
  · exact even32_neg (even32_moduloOffset h)
  · exact even32_moduloOffset h

/-! ### The parts of the state that hold pointers -/

/-- The Copper's pointers are even. -/
structure CopperEven (k : Copper) : Prop where
  pc     : Even32 k.pc
  cop1lc : Even32 k.cop1lc
  cop2lc : Even32 k.cop2lc

/-- The Blitter's pointers and modulos are even. -/
structure BlitterEven (b : Blitter) : Prop where
  bltapt  : Even32 b.bltapt
  bltbpt  : Even32 b.bltbpt
  bltcpt  : Even32 b.bltcpt
  bltdpt  : Even32 b.bltdpt
  bltamod : Even16 b.bltamod
  bltbmod : Even16 b.bltbmod
  bltcmod : Even16 b.bltcmod
  bltdmod : Even16 b.bltdmod

/-- The bitplanes' modulos and pointers are even. -/
structure BplEven (b : Bitplanes) : Prop where
  bpl1mod : Even16 b.bpl1mod
  bpl2mod : Even16 b.bpl2mod
  bplpt   : ∀ p : Fin 6, Even32 b.bplpt[p]

/-- The sprites' pointers are even. -/
def SpritesEven (l : Vector Sprite 8) : Prop := ∀ n : Fin 8, Even32 l[n].ptr

/-- The invariant, part by part. -/
theorem pointersEven_iff (s : State) :
    PointersEven s ↔
      CopperEven s.copper ∧ BlitterEven s.blitter ∧ BplEven s.bpl ∧ SpritesEven s.sprites := by
  constructor
  · intro h
    obtain ⟨hamod, hbmod, hcmod, hdmod⟩ := h.bltmod
    exact ⟨⟨h.coppc, h.cop1lc, h.cop2lc⟩,
      ⟨h.bltapt, h.bltbpt, h.bltcpt, h.bltdpt, hamod, hbmod, hcmod, hdmod⟩,
      ⟨h.bplmod.1, h.bplmod.2, h.bplpt⟩, h.sprpt⟩
  · rintro ⟨hcop, hblt, hbpl, hspr⟩
    exact ⟨hcop.pc, hcop.cop1lc, hcop.cop2lc, hblt.bltapt, hblt.bltbpt, hblt.bltcpt, hblt.bltdpt,
      ⟨hblt.bltamod, hblt.bltbmod, hblt.bltcmod, hblt.bltdmod⟩, ⟨hbpl.bpl1mod, hbpl.bpl2mod⟩, hbpl.bplpt, hspr⟩

/-- A bitplane pointer replaced by an even one. -/
theorem even32_set_bplpt {l : Vector Ptr 6} (h : ∀ p : Fin 6, Even32 l[p]) (i : Fin 6) {q : Ptr} (hq : Even32 q)
    (p : Fin 6) : Even32 (l.set i q)[p] := by
  by_cases hip : i.val = p.val
  · simpa [Vector.getElem_set, hip] using hq
  · simpa [Vector.getElem_set, hip] using h p

/-- A sprite replaced by one with an even pointer. -/
theorem spritesEven_set {l : Vector Sprite 8} (h : SpritesEven l) (i : Fin 8) {x : Sprite} (hx : Even32 x.ptr) :
    SpritesEven (l.set i x) := by
  intro n
  by_cases hin : i.val = n.val
  · simpa [Vector.getElem_set, hin] using hx
  · simpa [Vector.getElem_set, hin] using h n

/-- Sprites rebuilt with the pointers they had. -/
theorem spritesEven_ofFn {l : Vector Sprite 8} (h : SpritesEven l) {g : Fin 8 → Sprite}
    (hg : ∀ n : Fin 8, (g n).ptr = l[n].ptr) : SpritesEven (Vector.ofFn g) := by
  intro n
  have hn : (Vector.ofFn g)[n] = g n := by simp
  rw [hn, hg]
  exact h n

/-! ### Steady operations -/

/-- What every operation of a slot keeps until the clock advances: the clock, the configuration, the power, the
overlay line and the WOM lock as they are, and each agent's even pointers even. -/
structure Steady (s t : State) : Prop where
  now       : t.now = s.now
  cfg       : t.cfg = s.cfg
  powered   : t.powered = s.powered
  ovl       : t.mem.ovl = s.mem.ovl
  womLocked : t.mem.womLocked = s.mem.womLocked
  copper    : CopperEven s.copper → CopperEven t.copper
  blitter   : BlitterEven s.blitter → BlitterEven t.blitter
  bpl       : BplEven s.bpl → BplEven t.bpl
  sprites   : SpritesEven s.sprites → SpritesEven t.sprites

/-- The parts of the state that `Steady` speaks of. -/
def steadyView (s : State) :
    BitVec 64 × Cfg × Bool × Bool × Bool × Copper × Blitter × Bitplanes × Vector Sprite 8 :=
  (s.now, s.cfg, s.powered, s.mem.ovl, s.mem.womLocked, s.copper, s.blitter, s.bpl, s.sprites)

variable {s t u : State}

/-- An operation on other parts of the state is steady. -/
theorem Steady.of_view (h : steadyView t = steadyView s) : Steady s t := by
  simp only [steadyView, Prod.mk.injEq] at h
  obtain ⟨hnow, hcfg, hpow, hovl, hwom, hcop, hblt, hbpl, hspr⟩ := h
  exact ⟨hnow, hcfg, hpow, hovl, hwom, hcop ▸ id, hblt ▸ id, hbpl ▸ id, hspr ▸ id⟩

/-- Nothing changed. -/
theorem Steady.refl (s : State) : Steady s s := .of_view rfl

/-- One after the other, the later one first: it names what the earlier one leaves. -/
theorem Steady.after (k : Steady t u) (h : Steady s t) : Steady s u where
  now := k.now.trans h.now
  cfg := k.cfg.trans h.cfg
  powered := k.powered.trans h.powered
  ovl := k.ovl.trans h.ovl
  womLocked := k.womLocked.trans h.womLocked
  copper := k.copper ∘ h.copper
  blitter := k.blitter ∘ h.blitter
  bpl := k.bpl ∘ h.bpl
  sprites := k.sprites ∘ h.sprites

/-- Either of two. -/
theorem Steady.ite {c : Prop} [Decidable c] (h : Steady s t) (k : Steady s u) : Steady s (if c then t else u) := by
  split
  · exact h
  · exact k

/-- Steady operations keep the invariant. -/
theorem Steady.pointersEven (h : Steady s t) (hs : PointersEven s) : PointersEven t := by
  obtain ⟨hcop, hblt, hbpl, hspr⟩ := (pointersEven_iff s).1 hs
  exact (pointersEven_iff t).2 ⟨h.copper hcop, h.blitter hblt, h.bpl hbpl, h.sprites hspr⟩

/-- An update of the Copper that keeps its pointers even; left out, the proof is that it does not touch them. -/
theorem steady_withCopper (s : State) {f : Copper → Copper}
    (hf : ∀ k, CopperEven k → CopperEven (f k) := by exact fun _ h => { h with }) : Steady s (withCopper f s) :=
  { Steady.refl s with copper := hf s.copper }

/-- An update of the Blitter that keeps its pointers and modulos even. -/
theorem steady_withBlitter (s : State) {f : Blitter → Blitter}
    (hf : ∀ b, BlitterEven b → BlitterEven (f b) := by exact fun _ h => { h with }) : Steady s (withBlitter f s) :=
  { Steady.refl s with blitter := hf s.blitter }

/-- An update of the bitplanes that keeps their pointers and modulos even. -/
theorem steady_withBpl (s : State) {f : Bitplanes → Bitplanes}
    (hf : ∀ b, BplEven b → BplEven (f b) := by exact fun _ h => { h with }) : Steady s (withBpl f s) :=
  { Steady.refl s with bpl := hf s.bpl }

/-- An update of a sprite that keeps its pointer even. -/
theorem steady_withSprite (s : State) (n : Fin 8) {f : Sprite → Sprite}
    (hf : ∀ x, Even32 x.ptr → Even32 (f x).ptr := by exact fun _ h => h) : Steady s (withSprite n f s) :=
  { Steady.refl s with sprites := fun h => spritesEven_set h n (hf _ (h n)) }

/-! From here on `steady_f` says that the operation `f` is steady.  First the operations that touch none of these
parts. -/

theorem steady_recordBus (o : BusOwner) (v : Word) (s : State) : Steady s (recordBus o v s) := .of_view rfl
theorem steady_chipFetch (p : Ptr) (s : State) : Steady s (chipFetch p s) := .of_view rfl
theorem steady_chipWrite16 (p : Ptr) (v : Word) (s : State) : Steady s (chipWrite16 p v s) := .of_view rfl
theorem steady_scheduleData (i : Fin 13) (t : BitVec 64) (id : EventId) (data : BitVec 64) (s : State) :
    Steady s (scheduleData i t id data s) := .of_view rfl
theorem steady_cancel (i : Fin 13) (s : State) : Steady s (cancel i s) := .of_view rfl
theorem steady_raiseIrq (bit : Nat) (s : State) : Steady s (raiseIrq bit s) := .of_view rfl
theorem steady_recordViolation (v : Violation) (s : State) : Steady s (recordViolation v s) := .of_view rfl
theorem steady_recordUnimplemented (off : Nat) (s : State) : Steady s (recordUnimplemented off s) := .of_view rfl
theorem steady_forward (f : Forward) (s : State) : Steady s (forward f s) := .of_view rfl
theorem steady_setReadData (v : Long) (s : State) : Steady s (setReadData v s) := .of_view rfl
theorem steady_withWindow (f : Window → Window) (s : State) : Steady s (withWindow f s) := .of_view rfl
theorem steady_withDenise (f : Denise → Denise) (s : State) : Steady s (withDenise f s) := .of_view rfl

/-- The same for what a meaning answers: it is steady where it is a next state. -/
def SteadyResult (s : State) (r : Result) : Prop := ∀ t, r = .next t → Steady s t

/-- A next state. -/
theorem SteadyResult.next (h : Steady s t) : SteadyResult s (.next t) := by
  rintro _ ⟨⟩
  exact h

/-- Sequencing. -/
theorem SteadyResult.andThen {r : Result} {f : State → Result} (h : SteadyResult s r)
    (k : ∀ u, SteadyResult u (f u)) : SteadyResult s (andThen r f) := by
  intro t ht
  obtain ⟨u, hu, hf⟩ := (andThen_eq_next _ _ _).1 ht
  exact .after (k u t hf) (h u hu)

/-- A result that is reached over a steady operation. -/
theorem SteadyResult.after {r : Result} (k : SteadyResult t r) (h : Steady s t) : SteadyResult s r :=
  fun u hu => .after (k u hu) h

/-! ### The Blitter -/

/-- `Advance(X)` keeps the channel's pointer even. -/
theorem even32_advance (c : Cfg) (con1 : Word) {m : Word} (w : Nat) {p : Ptr} (col : Nat) (hm : Even16 m)
    (hp : Even32 p) : Even32 (advance c con1 m w p col).1 := by
  have hword : Even32 (ptrAdd c p (blitIncr con1)) := even32_ptrAdd c hp (even32_blitIncr con1)
  unfold advance
  split
  · exact even32_ptrAdd c hword (even32_blitModuloStep con1 hm)
  · exact hword

theorem steady_writeD (s : State) : Steady s (writeD s) :=
  .ite (.refl s) <| .after (steady_withBlitter _ fun _ h =>
    { h with bltdpt := even32_advance _ _ _ _ h.bltdmod h.bltdpt }) (steady_chipWrite16 _ _ s)

theorem steady_fetchA (s : State) : Steady s (fetchA s) :=
  .after (steady_withBlitter _ fun _ h =>
    { h with bltapt := even32_advance _ _ _ _ h.bltamod h.bltapt }) (steady_chipFetch _ s)

theorem steady_fetchB (s : State) : Steady s (fetchB s) :=
  .after (steady_withBlitter _ fun _ h =>
    { h with bltbpt := even32_advance _ _ _ _ h.bltbmod h.bltbpt }) (steady_chipFetch _ s)

theorem steady_fetchC (s : State) : Steady s (fetchC s) :=
  .after (steady_withBlitter _ fun _ h =>
    { h with bltcpt := even32_advance _ _ _ _ h.bltcmod h.bltcpt }) (steady_chipFetch _ s)

theorem steady_whenAction {f : State → State} (hf : ∀ s, Steady s (f s)) (w : Word) (a : MicroAction) (s : State) :
    Steady s (whenAction w a f s) := .ite (hf s) (.refl s)

theorem steady_dataTransfers (w : Word) (s : State) : Steady s (dataTransfers w s) :=
  .after (steady_whenAction steady_fetchC w _ _) <| .after (steady_whenAction steady_fetchB w _ _) <|
    .after (steady_whenAction steady_fetchA w _ _) (steady_whenAction steady_writeD w _ s)

/-- `REPEAT` counts and moves `bltpc` alone. -/
theorem blitterEven_blitRepeat (b : Blitter) (h : BlitterEven b) : BlitterEven (blitRepeat b) := by
  unfold blitRepeat
  dsimp only
  split_ifs <;> exact { h with }

theorem steady_dataHolds (w : Word) (s : State) : Steady s (dataHolds w s) := by
  have hold (a : MicroAction) (s : State) {g : Blitter → Blitter}
      (hg : ∀ b, BlitterEven b → BlitterEven (g b) := by exact fun _ h => { h with }) :
      Steady s (whenAction w a (withBlitter g) s) := steady_whenAction (fun s => steady_withBlitter s hg) w a s
  refine .after (.ite (steady_withBlitter _ blitterEven_blitRepeat) (steady_withBlitter _)) ?_
  exact .after (hold .holdD _) <| .after (hold .holdB _) <| hold .holdA s

theorem steady_dataActions (w : Word) (s : State) : Steady s (dataActions w s) :=
  .after (steady_dataHolds w _) (steady_dataTransfers w s)

theorem steady_microTransfer (w : Word) (s : State) : Steady s (microTransfer w s) :=
  .after (steady_dataTransfers w _) (.ite (steady_recordBus _ _ s) (.refl s))

theorem steady_bltDone (s : State) : Steady s (bltDone s) :=
  .after (steady_withBlitter _) <| .after (steady_raiseIrq _ _) (steady_withBlitter s)

theorem steady_microActions (w : Word) (s : State) : Steady s (microActions w s) :=
  .after (steady_whenAction steady_bltDone w _ _) (steady_dataHolds w s)

theorem steady_executeMicro (w : Word) (s : State) : Steady s (executeMicro w s) :=
  .after (steady_microActions w _) (steady_microTransfer w s)

theorem steady_selectProgram (index : Nat) (s : State) : Steady s (selectProgram index s) :=
  steady_withBlitter s

theorem steady_runData (words : List Word) (n : Nat) (s : State) : Steady s (runData words n s) := by
  induction n generalizing s with
  | zero => exact .refl s
  | succ n ih =>
    unfold runData
    split
    · exact .refl s
    · exact .ite (steady_dataActions _ s) (.after (ih _) (steady_dataActions _ s))

theorem steady_fastBlit (s : State) : Steady s (fastBlit s) :=
  .after (steady_selectProgram _ _) <| .after (steady_withBlitter _) <|
    .after (steady_runData _ _ _) (steady_withBlitter s)

theorem blitterEven_lineIncX (c : Cfg) {b : Blitter} (h : BlitterEven b) : BlitterEven (lineIncX c b) := by
  unfold lineIncX
  split
  · exact { h with bltcpt := even32_ptrAdd c h.bltcpt even32_two }
  · exact { h with }

theorem blitterEven_lineDecX (c : Cfg) {b : Blitter} (h : BlitterEven b) : BlitterEven (lineDecX c b) := by
  unfold lineDecX
  split
  · exact { h with bltcpt := even32_ptrAdd c h.bltcpt even32_minusTwo }
  · exact { h with }

theorem blitterEven_lineIncY (c : Cfg) {b : Blitter} (h : BlitterEven b) : BlitterEven (lineIncY c b) :=
  { h with bltcpt := even32_ptrAdd c h.bltcpt (even32_moduloOffset h.bltcmod) }

theorem blitterEven_lineDecY (c : Cfg) {b : Blitter} (h : BlitterEven b) : BlitterEven (lineDecY c b) :=
  { h with bltcpt := even32_ptrAdd c h.bltcpt (even32_neg (even32_moduloOffset h.bltcmod)) }

theorem blitterEven_lineMinor (c : Cfg) {b : Blitter} (h : BlitterEven b) : BlitterEven (lineMinor c b) := by
  unfold lineMinor
  split_ifs
  · exact blitterEven_lineDecY c h
  · exact blitterEven_lineIncY c h
  · exact blitterEven_lineDecX c h
  · exact blitterEven_lineIncX c h

theorem blitterEven_lineMajor (c : Cfg) {b : Blitter} (h : BlitterEven b) : BlitterEven (lineMajor c b) := by
  unfold lineMajor
  split_ifs
  · exact blitterEven_lineDecX c h
  · exact blitterEven_lineIncX c h
  · exact blitterEven_lineDecY c h
  · exact blitterEven_lineIncY c h

theorem blitterEven_lineError (c : Cfg) {b : Blitter} (h : BlitterEven b) : BlitterEven (lineError c b) := by
  have hmod : Even16 (if signBit b.bltcon1 then b.bltbmod else b.bltamod) := by
    split
    · exact h.bltbmod
    · exact h.bltamod
  unfold lineError
  split
  · exact { h with bltapt := even32_ptrAdd c h.bltapt (even32_moduloOffset hmod) }
  · exact h

/-- A step of a line: D's pointer takes C's (rule R341). -/
theorem blitterEven_lineStep (c : Cfg) {b : Blitter} (h : BlitterEven b) : BlitterEven (lineStep c b) := by
  have hminor : BlitterEven (if signBit b.bltcon1 then b else lineMinor c b) := by
    split
    · exact h
    · exact blitterEven_lineMinor c h
  have hmoved := blitterEven_lineError c (blitterEven_lineMajor c hminor)
  exact { hmoved with bltdpt := hmoved.bltcpt }

theorem steady_linePixel (s : State) : Steady s (linePixel s) := by
  have hfetch (c : Bool) (p : Ptr) : Steady s (if c then chipFetch p s else s) :=
    .ite (steady_chipFetch p s) (.refl s)
  have hstore (c : Bool) (p : Ptr) (d : Word) (t : State) : Steady t (if c then chipWrite16 p d t else t) :=
    .ite (steady_chipWrite16 p d t) (.refl t)
  exact { Steady.after (hstore _ _ _ _) (hfetch _ _) with blitter := fun h => blitterEven_lineStep s.cfg { h with } }

theorem steady_linePixels (n : Nat) (s : State) : Steady s (linePixels n s) := by
  induction n generalizing s with
  | zero => exact .refl s
  | succ n ih => exact .after (ih _) (steady_linePixel s)

theorem steady_selectLine (s : State) : Steady s (selectLine s) :=
  steady_withBlitter s

theorem steady_lineBlit (s : State) : Steady s (lineBlit s) :=
  .after (steady_selectLine _) <| .after (steady_linePixels _ _) (steady_withBlitter s)

theorem steady_launch (v : Word) (s : State) : Steady s (launch v s) := by
  have hstart : Steady s (cancel slotBlitter (withBlitter (launchCounters v) s)) :=
    .after (steady_cancel _ _) (steady_withBlitter s)
  refine .after (.ite (steady_lineBlit _) ?_) hstart
  split
  · exact steady_selectProgram _ _
  · exact steady_fastBlit _

/-- Either of two Blitters. -/
theorem ite_blitterEven {c : Prop} [Decidable c] {a b : Blitter} (ha : BlitterEven a) (hb : BlitterEven b) :
    BlitterEven (if c then a else b) := by
  split
  · exact ha
  · exact hb

/-! ### The custom registers -/

/-- A Blitter register write: a pointer half or a modulo is even as written, any other register holds no pointer. -/
theorem blitterEven_writeBlitter (c : Cfg) (off : Nat) (v : Word) (b : Blitter) (h : BlitterEven b) :
    BlitterEven (writeBlitter c off v b) := by
  unfold writeBlitter
  iterate 4 refine ite_blitterEven { h with } ?_
  refine ite_blitterEven { h with bltcpt := even32_setPtrHigh c v h.bltcpt } ?_
  refine ite_blitterEven { h with bltcpt := even32_setPtrLow v b.bltcpt } ?_
  refine ite_blitterEven { h with bltbpt := even32_setPtrHigh c v h.bltbpt } ?_
  refine ite_blitterEven { h with bltbpt := even32_setPtrLow v b.bltbpt } ?_
  refine ite_blitterEven { h with bltapt := even32_setPtrHigh c v h.bltapt } ?_
  refine ite_blitterEven { h with bltapt := even32_setPtrLow v b.bltapt } ?_
  refine ite_blitterEven { h with bltdpt := even32_setPtrHigh c v h.bltdpt } ?_
  refine ite_blitterEven { h with bltdpt := even32_setPtrLow v b.bltdpt } ?_
  refine ite_blitterEven { h with bltcmod := even16_modulo v } ?_
  refine ite_blitterEven { h with bltbmod := even16_modulo v } ?_
  refine ite_blitterEven { h with bltamod := even16_modulo v } ?_
  refine ite_blitterEven { h with bltdmod := even16_modulo v } ?_
  iterate 3 refine ite_blitterEven { h with } ?_
  exact h

theorem steady_applySystem (off : Nat) (v : Word) (s : State) : Steady s (applySystem off v s) := by
  unfold applySystem
  split_ifs
  · exact steady_forward _ s
  · exact .of_view rfl
  · exact steady_withCopper s
  · exact .refl s

/-- A jump takes `COPPC` from a location register. -/
theorem copperEven_copperJump {k : Copper} (h : CopperEven k) {p : Ptr} (hp : Even32 p) :
    CopperEven (copperJump p k) :=
  { h with pc := hp }

theorem steady_writeCop1lc (low : Bool) (v : Word) (s : State) : Steady s (writeCop1lc low v s) :=
  steady_withCopper s fun _ h => { h with cop1lc := even32_pointerHalf s.cfg low v h.cop1lc }

theorem steady_writeCop2lc (low : Bool) (v : Word) (s : State) : Steady s (writeCop2lc low v s) :=
  steady_withCopper s fun _ h => { h with cop2lc := even32_pointerHalf s.cfg low v h.cop2lc }

theorem steady_applyControl (off : Nat) (v : Word) (s : State) : Steady s (applyControl off v s) := by
  unfold applyControl
  iterate 2 refine .ite (steady_writeCop1lc _ v s) ?_
  iterate 2 refine .ite (steady_writeCop2lc _ v s) ?_
  refine .ite (steady_withCopper s fun _ h => copperEven_copperJump h h.cop1lc) ?_
  refine .ite (steady_withCopper s fun _ h => copperEven_copperJump h h.cop2lc) ?_
  iterate 4 refine .ite (steady_withWindow _ s) ?_
  refine .ite (.of_view rfl) ?_
  refine .ite (steady_withDenise _ s) ?_
  iterate 2 refine .ite (.of_view rfl) ?_
  exact .refl s

theorem steady_logBpl (off : Nat) (v : Word) (s : State) : Steady s (logBpl off v s) := steady_withDenise _ s

theorem steady_writeBplpt (p : Fin 6) (low : Bool) (v : Word) (s : State) : Steady s (writeBplpt p low v s) :=
  steady_withBpl s fun _ h =>
    { h with bplpt := even32_set_bplpt h.bplpt p (even32_pointerHalf s.cfg low v (h.bplpt p)) }

theorem steady_applyBitplane (off : Nat) (v : Word) (s : State) : Steady s (applyBitplane off v s) := by
  unfold applyBitplane
  refine .ite (steady_writeBplpt _ _ v s) ?_
  iterate 3 refine .ite (.after (steady_logBpl _ v _) (steady_withBpl s)) ?_
  refine .ite (steady_withBpl s fun _ h => { h with bpl1mod := even16_modulo v }) ?_
  refine .ite (steady_withBpl s fun _ h => { h with bpl2mod := even16_modulo v }) ?_
  exact .ite (steady_withBpl s) (.refl s)

theorem steady_writeAttach (n : Fin 8) (v : Word) (s : State) : Steady s (writeAttach n v s) :=
  .ite (.after (steady_withSprite _ _) (steady_withSprite s n)) (.refl s)

theorem steady_applySprite (off : Nat) (v : Word) (s : State) : Steady s (applySprite off v s) := by
  unfold applySprite
  refine .ite (.after (steady_logBpl _ v _) (steady_withSprite s _)) ?_
  refine .ite (.after (steady_logBpl _ v _) <| .after (steady_writeAttach _ v _) (steady_withSprite s _)) ?_
  exact .ite (.after (steady_logBpl _ v _) (steady_withSprite s _))
    (.after (steady_logBpl _ v _) (steady_withSprite s _))

theorem steady_writeSprpt (n : Fin 8) (low : Bool) (v : Word) (s : State) : Steady s (writeSprpt n low v s) :=
  steady_withSprite s n fun _ h => even32_pointerHalf s.cfg low v h

/-- `Apply(off, value)`. -/
theorem steady_applyReg (off : Nat) (v : Word) (s : State) : Steady s (applyReg off v s) := by
  unfold applyReg
  split_ifs
  · exact steady_applySystem off v s
  · exact steady_launch v s
  · exact steady_withBlitter s (blitterEven_writeBlitter s.cfg off v)
  · exact steady_applyControl off v s
  · exact steady_applyBitplane off v s
  · exact steady_writeSprpt _ _ v s
  · exact steady_applySprite off v s
  · exact .of_view rfl

theorem steady_registerWrite (off : Nat) (v : Word) (s : State) : Steady s (registerWrite off v s) := by
  obtain h | h | h | h | h := registerWrite_cases off v s <;> rw [h]
  · exact .refl s
  · exact steady_recordUnimplemented off s
  · exact steady_forward _ s
  · exact .of_view rfl
  · exact steady_applyReg off v s

theorem steady_registerRead (off : Nat) (s : State) : Steady s (registerRead off s) := by
  have hclear : Steady s (readEffect off s) := .ite (steady_withDenise _ s) (.refl s)
  have hquirk : Steady s (setReadData ((busQuirk s).setWidth 32) (registerWrite off (busQuirk s) s)) :=
    .after (steady_setReadData _ _) (steady_registerWrite off _ s)
  unfold registerRead
  split
  · exact .after (steady_setReadData _ _) hclear
  · exact .of_view rfl
  · exact steady_setReadData _ s
  all_goals exact hquirk

theorem steady_accessRegister (off : Nat) (op : RegOp) (s : State) : Steady s (accessRegister off op s) := by
  cases op with
  | read => exact steady_registerRead off s
  | write v => exact steady_registerWrite off v s

theorem steady_applyWrites (l : List PendingWrite) (s : State) : Steady s (applyWrites l s) := by
  induction l generalizing s with
  | nil => exact .refl s
  | cons p l ih => exact .after (ih _) (steady_applyReg _ _ s)

theorem steady_applyDue (s : State) : Steady s (applyDue s) := by
  have happly (rest due : List PendingWrite) : Steady s (applyWrites due { s with pending := rest }) :=
    .after (steady_applyWrites due _) (.of_view rfl)
  unfold applyDue
  dsimp only
  split
  · exact .after (steady_cancel _ _) (happly _ _)
  · exact .after (steady_scheduleData _ _ _ _ _) (happly _ _)

/-! ### The Copper, and the meaning of every instruction -/

theorem steady_setCopState (st : CopState) (s : State) : Steady s (setCopState st s) := steady_withCopper s

theorem steady_copperFetch (s : State) : Steady s (copperFetch s) := by
  have hbus (w : Word) : Steady s (recordBus .copper w s) := steady_recordBus _ w s
  have hnext {k : Copper} (h : CopperEven k) : Even32 (ptrAdd s.cfg k.pc 2#32) :=
    even32_ptrAdd s.cfg h.pc even32_two
  unfold copperFetch
  dsimp only
  split
  · exact .after (steady_withCopper _ fun _ h => { h with pc := hnext h }) (hbus _)
  · exact .after (steady_withCopper _ fun _ h => { h with pc := hnext h }) (hbus _)
  all_goals exact hbus _

theorem steady_copperRecheck (s : State) : Steady s (copperRecheck s) := .ite (steady_setCopState _ s) (.refl s)

theorem steady_execCopperMove (ra : BitVec 8) (data : Word) (s : State) :
    SteadyResult s (execCopperMove ra data s) := by
  have hwrite := steady_registerWrite (moveDest ra) data s
  unfold execCopperMove
  split
  · exact .next (steady_setCopState _ s)
  · exact .next (.ite (.after (steady_setCopState _ _) hwrite) hwrite)

/-- Every instruction is steady. -/
theorem steady_exec (i : Instr) (s : State) : SteadyResult s (exec i s) := by
  obtain ⟨ra, data, h⟩ | ⟨_, _, _, _, _, h⟩ | ⟨_, _, _, _, _, h⟩ | ⟨w, h⟩ | ⟨index, h⟩ | h | h | ⟨off, op, h⟩ :=
    exec_cases i s <;> rw [h]
  · exact steady_execCopperMove ra data s
  · exact .next (steady_setCopState _ s)
  · exact .next (steady_withCopper s)
  · exact .next (steady_executeMicro w s)
  · exact .next (steady_selectProgram index s)
  · exact .next (steady_selectLine s)
  · exact .next (steady_fastBlit s)
  · exact .next (steady_accessRegister off op s)

/-! ### The CPU port -/

theorem steady_storeByte (r : Region) (a : Addr) (v : Byte) (s : State) : Steady s (storeByte r a v s) := by
  cases r
  case wom => exact .ite (.refl s) (.of_view rfl)
  all_goals exact .of_view rfl

theorem steady_ioRead (target : IoTarget) (a : Addr) (width : Nat) (s : State) :
    Steady s (ioRead target a width s) := .of_view rfl

theorem steady_read16 (a : Addr) (s : State) : SteadyResult s (read16 a s) := by
  unfold read16
  split
  · exact steady_exec _ s
  · exact .next (steady_ioRead _ _ _ s)
  · exact .next (steady_ioRead _ _ _ s)
  · exact .next (steady_ioRead _ _ _ s)
  · exact .next (.after (steady_setReadData _ _) (steady_recordViolation _ s))
  all_goals exact .next (steady_setReadData _ s)

theorem steady_read8 (a : Addr) (s : State) : SteadyResult s (read8 a s) := by
  unfold read8
  split
  · exact (steady_exec _ s).andThen fun u => .next (steady_setReadData _ u)
  · exact .next (steady_ioRead _ _ _ s)
  · exact .next (steady_ioRead _ _ _ s)
  · exact .next (steady_ioRead _ _ _ s)
  · exact .next (.after (steady_setReadData _ _) (steady_recordViolation _ s))
  all_goals exact .next (steady_setReadData _ s)

theorem steady_write16 (a : Addr) (v : Word) (s : State) : SteadyResult s (write16 a v s) := by
  unfold write16
  split
  · exact steady_exec _ s
  · exact .next (steady_forward _ s)
  · exact .next (steady_forward _ s)
  · exact .next (steady_forward _ s)
  · exact .next (steady_recordViolation _ s)
  all_goals exact .next (.after (steady_storeByte _ _ _ _) (steady_storeByte _ _ _ s))

theorem steady_write8 (a : Addr) (v : Byte) (s : State) : SteadyResult s (write8 a v s) := by
  unfold write8
  split
  · exact steady_exec _ s
  · exact .next (steady_forward _ s)
  · exact .next (steady_forward _ s)
  · exact .next (steady_forward _ s)
  · exact .next (steady_recordViolation _ s)
  all_goals exact .next (steady_storeByte _ _ _ s)

theorem steady_flagOdd (a : Addr) (width : Nat) (write : Bool) (s : State) : Steady s (flagOdd a width write s) :=
  .ite (steady_recordViolation _ s) (.refl s)

theorem steady_accessTransfer (op : CpuOp) (a : Addr) (s : State) : SteadyResult s (accessTransfer op a s) := by
  cases op with
  | read8 => exact steady_read8 a s
  | read16 => exact (steady_read16 _ _).after (steady_flagOdd a 2 false s)
  | read32 => exact (steady_read16 _ _).after (steady_flagOdd a 4 false s)
  | write8 v => exact steady_write8 a v s
  | write16 v => exact (steady_write16 _ _ _).after (steady_flagOdd a 2 true s)
  | write32 v => exact (steady_write16 _ _ _).after (steady_flagOdd a 4 true s)
  | readLow hi => exact (steady_read16 _ s).andThen fun u => .next (steady_setReadData _ u)

theorem steady_finishAccess (acc : CpuAccess) (rest : List CpuAccess) (cost : Nat) (later : List CpuInstr)
    (s : State) : Steady s (finishAccess acc rest cost later s) := by
  obtain ⟨queue, clock, h⟩ := continueInstr_changes (secondHalf acc.op (acc.addr.setWidth 24) s ++ rest) cost later
    { s with bus := { s.bus with reqCPU := false, cpuClock := s.now + 2#64 } }
  unfold finishAccess
  rw [h]
  exact .of_view rfl

theorem steady_runIdle (l : List CpuInstr) (s : State) : Steady s (runIdle l s) := by
  obtain ⟨queue, clock, h⟩ := runIdle_changes l s
  rw [h]
  exact .of_view rfl

theorem steady_issueAccess (acc : CpuAccess) (rest : List CpuAccess) (cost : Nat) (later : List CpuInstr)
    (s : State) : SteadyResult s (issueAccess acc rest cost later s) := by
  unfold issueAccess
  split_ifs
  · exact .next (.refl s)
  · exact .next (.of_view rfl)
  · exact (steady_accessTransfer _ _ s).andThen fun u => .next (steady_finishAccess acc rest cost later u)

theorem steady_cpuIssue (s : State) : SteadyResult s (cpuIssue s) := by
  have hnext (u : State) : SteadyResult u (issueNext u) := by
    unfold issueNext
    split
    · exact steady_issueAccess _ _ _ _ u
    · exact .next (.refl u)
    · exact .next (.refl u)
  unfold cpuIssue
  split
  · exact .next (.refl s)
  · exact (hnext _).after (steady_runIdle _ s)

theorem steady_cpuTransfer (s : State) : SteadyResult s (cpuTransfer s) := by
  unfold cpuTransfer
  split
  · exact (steady_accessTransfer _ _ s).andThen fun u =>
      .next (.after (steady_finishAccess _ _ _ _ _) (steady_recordBus _ _ u))
  · exact .next (.of_view rfl)
  · exact .next (.of_view rfl)

/-! ### Agnus and Denise -/

/-- The end-of-window modulo. -/
theorem steady_addModulos (s : State) : Steady s (addModulos s) := by
  refine steady_withBpl s fun b h => { h with bplpt := fun p => ?_ }
  have hmod : Even16 (if p.val % 2 = 0 then b.bpl1mod else b.bpl2mod) := by
    split
    · exact h.bpl1mod
    · exact h.bpl2mod
  simp only [Fin.getElem_fin, Vector.getElem_ofFn]
  split
  · exact even32_ptrAdd s.cfg (h.bplpt p) (even32_moduloOffset hmod)
  · exact h.bplpt p

theorem steady_windowTick (s : State) : Steady s (windowTick s) :=
  .after (.ite (steady_addModulos _) (.refl _)) (steady_withWindow _ s)

theorem steady_arbitrate (s : State) : Steady s (arbitrate s) := by
  unfold arbitrate
  dsimp only
  split_ifs <;> exact .of_view rfl

theorem steady_diskTransfer (s : State) : Steady s (diskTransfer s) := .ite (.of_view rfl) (.of_view rfl)

theorem steady_spriteTransfer (n : Fin 8) (s : State) : Steady s (spriteTransfer n s) :=
  .after (steady_registerWrite _ _ _) <| .after (steady_recordBus _ _ _) <|
    steady_withSprite s n fun _ h => even32_ptrAdd s.cfg h even32_two

theorem steady_bitplaneTransfer (p : Fin 6) (s : State) : Steady s (bitplaneTransfer p s) :=
  .after (steady_registerWrite _ _ _) <| .after (steady_recordBus _ _ _) <| steady_withBpl s fun _ h =>
    { h with bplpt := even32_set_bplpt h.bplpt p (even32_ptrAdd s.cfg (h.bplpt p) even32_two) }

theorem steady_shifterTick (s : State) : Steady s (shifterTick s) := .ite (steady_withBpl s) (.refl s)

theorem steady_diwHorizontal (s : State) : Steady s (diwHorizontal s) := by
  have hlog (off : Nat) (v : Word) (f : Window → Window) (u : State) : Steady u (logBpl off v (withWindow f u)) :=
    .after (steady_logBpl off v _) (steady_withWindow f u)
  have hon : Steady s (if s.beam.h = s.window.diwstrt.extractLsb' 0 8 then
      logBpl 0x08E 1#16 (withWindow (fun w => { w with diwH := true }) s) else s) := .ite (hlog _ _ _ s) (.refl s)
  exact .ite (.after (hlog _ _ _ _) hon) hon

theorem spriteLoad_ptr (c : Cfg) (r : ReplaySprite) (x : Nat) (sp : Sprite) : (spriteLoad c r x sp).ptr = sp.ptr := by
  unfold spriteLoad
  split <;> rfl

/-- A pixel shifts the sprites and changes Denise. -/
theorem steady_translatePixel (x : Nat) (s : State) : Steady s (translatePixel x s).1 :=
  { Steady.refl s with sprites := fun h => spritesEven_ofFn h fun n => by simp [spriteShift, spriteLoad_ptr] }

theorem steady_translate (n x : Nat) (s : State) : Steady s (translate n x s).1 := by
  induction n generalizing x s with
  | zero => exact .refl s
  | succ n ih => exact .after (ih _ _) (steady_translatePixel x s)

theorem steady_replayFrom (l : List LogEntry) (x : Nat) (s : State) : Steady s (replayFrom l x s).1 := by
  induction l generalizing x s with
  | nil => exact steady_translate _ x s
  | cons e l ih => exact .after (ih _ _) <| .after (steady_withDenise _ _) (steady_translate _ x s)

theorem steady_storeRow (v : Nat) (row : List (BitVec 32)) (s : State) : Steady s (storeRow v row s) :=
  .ite (.refl s) (.ite (.of_view rfl) (.of_view rfl))

theorem steady_endOfLine (s : State) : Steady s (endOfLine s) := by
  unfold endOfLine
  exact .after (steady_withDenise _ _) <| .after (steady_storeRow _ _ _) <|
    .after (steady_replayFrom _ _ _) (steady_withDenise _ s)

theorem steady_clearLine (s : State) : Steady s (clearLine s) :=
  { Steady.refl s with
    bpl := fun h => { h with }
    sprites := fun h => spritesEven_ofFn h fun _ => rfl }

theorem steady_swapFrames (s : State) : Steady s (swapFrames s) := .ite (.of_view rfl) (.of_view rfl)

/-- The Copper restarts at `COP1LC` with each frame (rule R264). -/
theorem steady_endOfFrame (s : State) : Steady s (endOfFrame s) := by
  have hrest : Steady (swapFrames s) (endOfFrame s) :=
    { Steady.refl (swapFrames s) with
      copper := fun h => copperEven_copperJump h h.cop1lc
      sprites := fun h => spritesEven_ofFn h fun _ => rfl }
  exact .after hrest (steady_swapFrames s)

theorem steady_startOfFrame (s : State) : Steady s (startOfFrame s) :=
  .of_view rfl

theorem steady_startOfLine (s : State) : Steady s (startOfLine s) :=
  { Steady.refl s with sprites := fun h => spritesEven_ofFn h fun _ => rfl }

theorem steady_newLine (s : State) : Steady s (newLine s) := by
  have hend : Steady s (clearLine (endOfLine (windowLineEnd s))) :=
    .after (steady_clearLine _) <| .after (steady_endOfLine _) <| .ite (steady_addModulos s) (.refl s)
  have hline (beam : Beam) (bus : Bus) :
      Steady s { clearLine (endOfLine (windowLineEnd s)) with beam := beam, bus := bus } :=
    .after (t := clearLine (endOfLine (windowLineEnd s))) (.of_view rfl) hend
  refine .after (steady_startOfLine _) ?_
  exact .ite (.after (steady_startOfFrame _) <| .after (steady_endOfFrame _) (hline _ _)) (hline _ _)

/-! ### The slot -/

theorem steady_withMicro {f : Word → Instr → Result} (s : State) (hf : ∀ w i, SteadyResult s (f w i)) :
    SteadyResult s (withMicro f s) := by
  unfold withMicro
  split
  · exact .next (.refl s)
  · split
    · exact hf _ _
    · rintro _ ⟨⟩

theorem steady_copperStep (o : BusOwner) (s : State) : SteadyResult s (copperStep o s) := by
  have hfetch : SteadyResult s (.next (if o = .copper then copperFetch s else s)) :=
    .next (.ite (steady_copperFetch s) (.refl s))
  unfold copperStep
  split
  · exact hfetch
  · exact hfetch
  · exact steady_exec _ s
  · exact .next (steady_copperRecheck s)
  · exact .next (steady_setCopState _ s)
  · exact .next (.refl s)

theorem steady_blitterStep (o : BusOwner) (s : State) : SteadyResult s (blitterStep o s) := by
  refine steady_withMicro s fun w i => ?_
  split
  · exact .next (steady_microActions w s)
  · exact steady_exec i s

theorem steady_bitplaneStep (o : BusOwner) (s : State) : Steady s (bitplaneStep o s) := by
  unfold bitplaneStep
  split
  · exact .ite (steady_bitplaneTransfer _ s) (.refl s)
  · exact .refl s

theorem steady_handleEvent (o : BusOwner) (i : Fin 13) (s : State) : SteadyResult s (handleEvent o i s) := by
  have hcancel := steady_cancel i s
  obtain ⟨-, h⟩ | ⟨-, h⟩ | ⟨-, h⟩ | ⟨-, h⟩ | ⟨-, h⟩ := handleEvent_cases o i s <;> rw [h]
  · exact .next (steady_applyDue s)
  · exact (steady_copperStep o _).after hcancel
  · exact (steady_blitterStep o _).after hcancel
  · exact .next (.after (steady_bitplaneStep o _) hcancel)
  · exact .next (.after (steady_cancel i _) (steady_forward _ s))

theorem steady_serveEvent (o : BusOwner) (i : Fin 13) (s : State) : SteadyResult s (serveEvent o i s) := by
  unfold serveEvent
  split
  · exact steady_handleEvent o i s
  · exact .next (.refl s)

theorem steady_serveEvents (o : BusOwner) (l : List (Fin 13)) (s : State) : SteadyResult s (serveEvents o l s) :=
  fun t h => serveEvents_keeps (P := Steady s) o (fun i u v hu hv => .after (steady_handleEvent o i u v hv) hu) l s t
    (.refl s) h

theorem steady_ownerTransfer (o : BusOwner) (s : State) : SteadyResult s (ownerTransfer o s) := by
  unfold ownerTransfer
  cases o
  case none => exact .next (.refl s)
  case refresh => exact .next (steady_recordBus _ _ s)
  case disk => exact .next (steady_diskTransfer s)
  case audio =>
    dsimp only
    split
    · exact .next (.of_view rfl)
    · exact .next (.refl s)
  case sprite =>
    dsimp only
    split
    · exact .next (steady_spriteTransfer _ s)
    · exact .next (.refl s)
  case bitplane => exact steady_serveEvent _ _ s
  case copper => exact steady_serveEvent _ _ s
  case blitter => exact steady_withMicro s fun w _ => .next (steady_microTransfer w s)
  case cpu => exact steady_cpuTransfer s

/-- The end of a slot is a steady operation, after which the clock advances by one. -/
theorem finishSlot_eq (s : State) : ∃ u, Steady s u ∧ finishSlot s = { u with now := u.now + 1#64 } := by
  have hbefore : Steady s (diwHorizontal (shifterTick s)) := .after (steady_diwHorizontal _) (steady_shifterTick s)
  refine ⟨_, .after ?_ hbefore, rfl⟩
  exact .ite (steady_newLine _) (.of_view rfl)

theorem steady_transfers (o : BusOwner) (s : State) : SteadyResult s (transfers o s) :=
  (steady_ownerTransfer o s).andThen fun u => steady_serveEvents o lateSlots u

/-- The slot from arbitration on is a steady operation, after which the clock advances by one. -/
theorem busSlot_eq_next (h : busSlot s = .next t) : ∃ u, Steady s u ∧ t = { u with now := u.now + 1#64 } := by
  obtain ⟨s1, h1, hfinish⟩ := (andThen_eq_next _ _ _).1 h
  cases hfinish
  obtain ⟨u, hu, heq⟩ := finishSlot_eq s1
  exact ⟨u, .after hu <| .after (steady_transfers _ _ s1 h1) (steady_arbitrate s), heq⟩

/-- A slot is a steady operation, after which the clock advances by one. -/
theorem slot_eq_next (h : slot s = .next t) : ∃ u, Steady s u ∧ t = { u with now := u.now + 1#64 } := by
  obtain ⟨s1, h1, h⟩ := (andThen_eq_next _ _ _).1 h
  obtain ⟨s2, h2, hbus⟩ := (andThen_eq_next _ _ _).1 h
  obtain ⟨u, hu, heq⟩ := busSlot_eq_next hbus
  have hissue : Steady s s2 := .after (steady_cpuIssue s1 s2 h2) (steady_serveEvents _ _ s s1 h1)
  exact ⟨u, .after hu <| .after (steady_windowTick s2) hissue, heq⟩

/-! ### The inputs -/

/-- The parts of the state that hold pointers. -/
def pointerParts (s : State) : Copper × Blitter × Bitplanes × Vector Sprite 8 :=
  (s.copper, s.blitter, s.bpl, s.sprites)

/-- An operation on other parts of the state keeps the pointers even. -/
theorem PointersEven.of_parts (hs : PointersEven s) (h : pointerParts t = pointerParts s) : PointersEven t := by
  simp only [pointerParts, Prod.mk.injEq] at h
  obtain ⟨hcop, hblt, hbpl, hspr⟩ := h
  rw [pointersEven_iff] at *
  rwa [hcop, hblt, hbpl, hspr]

/-- The reset pointers are even. -/
theorem pointersEven_cold (c : Cfg) : PointersEven (State.cold c) := by
  have hptr : Even32 0 := by unfold Even32; decide
  have hmod : Even16 0 := by unfold Even16; decide
  refine (pointersEven_iff _).2 ⟨⟨hptr, hptr, hptr⟩, ⟨hptr, hptr, hptr, hptr, hmod, hmod, hmod, hmod⟩,
    ⟨hmod, hmod, fun p => ?_⟩, fun n => ?_⟩
  · simpa [State.cold, Bitplanes.reset] using hptr
  · simpa [State.cold, Sprite.reset] using hptr

/-- An input that only a powered machine takes leaves the pointers, when what it does leaves them. -/
theorem pointerParts_whenPowered {f : State → State} (hf : pointerParts (f s) = pointerParts s) :
    pointerParts (whenPowered f s) = pointerParts s := by
  unfold whenPowered
  split
  · exact hf
  · rfl

theorem pointerParts_takeInstructions (l : List CpuInstr) (s : State) :
    pointerParts (takeInstructions l s) = pointerParts s := by
  unfold takeInstructions
  dsimp only
  split <;> rfl

theorem pointerParts_foreignSchedule (i : Fin 13) (trigger : BitVec 64) (id : Word) (s : State) :
    pointerParts (foreignSchedule i trigger id s) = pointerParts s := by
  unfold foreignSchedule
  split <;> rfl

theorem pointerParts_configure (c : Cfg) (s : State) : pointerParts (configure c s) = pointerParts s := by
  unfold configure
  split <;> rfl

/-- Power-on keeps the pointers or sets them to their reset values. -/
theorem powerOn_keeps_pointersEven (memory : Bool) (hs : PointersEven s) (h : powerOn memory s = .next t) :
    PointersEven t := by
  unfold powerOn at h
  split_ifs at h <;> cases h
  · exact hs
  · exact hs.of_parts rfl
  · exact (pointersEven_cold s.cfg).of_parts rfl

/-- Every input leaves the pointers as they are, or sets them all to their reset values. -/
theorem applyInput_keeps_pointersEven (i : Input) (hs : PointersEven s) (h : applyInput i s = .next t) :
    PointersEven t := by
  cases i
  case powerOn memory => exact powerOn_keeps_pointersEven memory hs h
  all_goals cases h
  case overlay level => exact hs.of_parts (pointerParts_whenPowered rfl)
  case womLock => exact hs.of_parts (pointerParts_whenPowered rfl)
  case irq source => exact hs.of_parts (pointerParts_whenPowered rfl)
  case disk port => exact hs.of_parts rfl
  case audio n port => exact hs.of_parts rfl
  case cpu l => exact hs.of_parts (pointerParts_whenPowered (pointerParts_takeInstructions l s))
  case schedule i trigger id =>
    exact hs.of_parts (pointerParts_whenPowered (pointerParts_foreignSchedule i trigger id s))
  case configure c => exact hs.of_parts (pointerParts_configure c s)
  case reset =>
    unfold reset
    split
    · exact (pointersEven_cold s.cfg).of_parts rfl
    · exact hs
  case powerOff =>
    unfold powerOff
    split
    · exact (pointersEven_cold s.cfg).of_parts rfl
    · exact hs

theorem takeInputs_keeps_pointersEven (l : List TimedInput) (hs : PointersEven s) (h : takeInputs l s = .next t) :
    PointersEven t := by
  induction l generalizing s with
  | nil =>
    cases h
    exact hs.of_parts rfl
  | cons i l ih =>
    unfold takeInputs at h
    split at h
    · obtain ⟨u, hu, ht⟩ := (andThen_eq_next _ _ _).1 h
      exact ih (applyInput_keeps_pointersEven _ hs hu) ht
    · cases h
      exact hs.of_parts rfl

/-! ### The step -/

/-- A step: the inputs, then a slot where the machine is powered. -/
theorem step_eq_next (h : step s = .next t) :
    ∃ u, takeInputs s.ext.inputs s = .next u ∧
      ((u.powered = true ∧ slot u = .next t) ∨ (u.powered = false ∧ t = u)) := by
  obtain ⟨u, hu, hslot⟩ := (andThen_eq_next _ _ _).1 h
  refine ⟨u, hu, ?_⟩
  split at hslot
  case isTrue hon => exact .inl ⟨hon, hslot⟩
  case isFalse hoff =>
    cases hslot
    exact .inr ⟨by simpa using hoff, rfl⟩

end Sys2Proof.Machine

namespace Sys2Proof.Invariants

open Sys2Proof.Machine

/-- Settles O12: the inputs keep the pointers even, a slot's operations are steady, and the clock holds none. -/
theorem stepKeepsPointersEven : Obligations.StepKeepsPointersEven := by
  intro s t hs h
  obtain ⟨u, hu, hslot⟩ := step_eq_next h
  have hinput : PointersEven u := takeInputs_keeps_pointersEven _ hs hu
  obtain ⟨-, hslot⟩ | ⟨-, rfl⟩ := hslot
  · obtain ⟨v, hv, rfl⟩ := slot_eq_next hslot
    exact (hv.pointersEven hinput).of_parts rfl
  · exact hinput

/-- Settles O15: without inputs the step is a slot, whose operations are steady until the clock advances. -/
theorem stepAdvancesClock : Obligations.StepAdvancesClock := by
  intro s t hon hin h
  obtain ⟨u, hu, hslot⟩ := step_eq_next h
  rw [hin] at hu
  cases hu
  obtain ⟨-, hslot⟩ | ⟨hoff, -⟩ := hslot
  · obtain ⟨v, hv, rfl⟩ := slot_eq_next hslot
    exact ⟨congrArg (· + 1#64) hv.now, hv.cfg, hv.powered.trans hon, hv.ovl, hv.womLocked⟩
  · exact absurd (hon.symm.trans hoff) (by decide)

end Sys2Proof.Invariants
end

section
/-! SUPPORT. What a slot and an input can do to memory: a slot only stores bytes, an input rebuilds the region table or
clears memory; and the two invariants of memory that follow. -/

namespace Sys2Proof.Machine

/-! ### Byte stores -/

/-- One byte stored in one of the memories; a locked WOM takes none (rules R107, R113). -/
inductive Mem.ByteStore (m : Mem) : Mem → Prop
  | chip (n : Nat) (v : Byte) : Mem.ByteStore m { m with chip := m.chip.setByte n v }
  | slow (n : Nat) (v : Byte) : Mem.ByteStore m { m with slow := m.slow.setByte n v }
  | fast (n : Nat) (v : Byte) : Mem.ByteStore m { m with fast := m.fast.setByte n v }
  | wom (n : Nat) (v : Byte) (unlocked : m.womLocked = false) : Mem.ByteStore m { m with wom := m.wom.setByte n v }

/-- From `s` to `t` memory changes by byte stores alone. -/
def Stores (s t : State) : Prop := Relation.ReflTransGen Mem.ByteStore s.mem t.mem

variable {s t u : State}

/-- Byte stores keep the canonical form. -/
theorem Mem.canonical_of_byteStores {m m' : Mem} (h : Relation.ReflTransGen Mem.ByteStore m m') (hm : m.canonical) :
    m'.canonical := by
  induction h with
  | refl => exact hm
  | tail _ hstore ih =>
    obtain ⟨hchip, hslow, hfast, hwom⟩ := ih
    cases hstore with
    | chip n v => exact ⟨Memory.wf_setByte hchip n v, hslow, hfast, hwom⟩
    | slow n v => exact ⟨hchip, Memory.wf_setByte hslow n v, hfast, hwom⟩
    | fast n v => exact ⟨hchip, hslow, Memory.wf_setByte hfast n v, hwom⟩
    | wom n v => exact ⟨hchip, hslow, hfast, Memory.wf_setByte hwom n v⟩

/-- Byte stores leave the region table. -/
theorem Mem.memSrc_of_byteStores {m m' : Mem} (h : Relation.ReflTransGen Mem.ByteStore m m') :
    m'.memSrc = m.memSrc := by
  induction h with
  | refl => rfl
  | tail _ hstore ih => cases hstore <;> exact ih

/-- An operation that leaves memory alone. -/
theorem Stores.of_mem (h : t.mem = s.mem) : Stores s t := by
  unfold Stores
  rw [h]

/-- Nothing changed. -/
theorem Stores.refl (s : State) : Stores s s := .of_mem rfl

/-- One after the other, the later one first: it names what the earlier one leaves. -/
theorem Stores.after (k : Stores t u) (h : Stores s t) : Stores s u := Relation.ReflTransGen.trans h k

/-- Stores, and then an operation that leaves memory alone. -/
theorem Stores.trans_mem (h : Stores s t) (hu : u.mem = t.mem) : Stores s u := .after (.of_mem hu) h

/-- Either of two. -/
theorem Stores.ite {c : Prop} [Decidable c] (h : Stores s t) (k : Stores s u) : Stores s (if c then t else u) := by
  split
  · exact h
  · exact k

/-- The same for what a meaning answers: where it is a next state, memory has changed by stores alone. -/
def StoresResult (s : State) (r : Result) : Prop := ∀ t, r = .next t → Stores s t

/-- A next state. -/
theorem StoresResult.next (h : Stores s t) : StoresResult s (.next t) := by
  rintro _ ⟨⟩
  exact h

/-- Sequencing. -/
theorem StoresResult.andThen {r : Result} {f : State → Result} (h : StoresResult s r)
    (k : ∀ u, StoresResult u (f u)) : StoresResult s (andThen r f) := by
  intro t ht
  obtain ⟨u, hu, hf⟩ := (andThen_eq_next _ _ _).1 ht
  exact .after (k u t hf) (h u hu)

/-- A result that is reached over stores. -/
theorem StoresResult.after {r : Result} (k : StoresResult t r) (h : Stores s t) : StoresResult s r :=
  fun u hu => .after (k u hu) h

/-! ### The two operations that store, and the Blitter.  From here on `stores_f` says that the operation `f` changes
memory by stores alone, and `f_mem` that it leaves memory. -/

/-- A DMA write stores the two bytes of its word (rule R118). -/
theorem stores_chipWrite16 (p : Ptr) (v : Word) (s : State) : Stores s (chipWrite16 p v s) :=
  .tail (.single (.chip _ _)) (.chip _ _)

/-- A CPU store stores its byte, or nothing (rules R107, R113). -/
theorem stores_storeByte (r : Region) (a : Addr) (v : Byte) (s : State) : Stores s (storeByte r a v s) := by
  cases r
  case chip => exact .single (.chip _ _)
  case slow => exact .single (.slow _ _)
  case fast => exact .single (.fast _ _)
  case wom =>
    simp only [storeByte]
    split
    case isTrue => exact .refl s
    case isFalse hlock => exact .single (.wom _ _ (by simpa using hlock))
  all_goals exact .refl s

theorem stores_writeD (s : State) : Stores s (writeD s) :=
  .ite (.refl s) ((stores_chipWrite16 _ _ s).trans_mem rfl)

theorem stores_whenAction {f : State → State} (hf : ∀ s, Stores s (f s)) (w : Word) (a : MicroAction) (s : State) :
    Stores s (whenAction w a f s) := .ite (hf s) (.refl s)

/-- Of the transfers only `WRITE_D` stores. -/
theorem stores_dataTransfers (w : Word) (s : State) : Stores s (dataTransfers w s) := by
  have hfetch {f : State → State} (hf : ∀ s, (f s).mem = s.mem) (a : MicroAction) (u : State) :
      Stores u (whenAction w a f u) := stores_whenAction (fun u => .of_mem (hf u)) w a u
  exact .after (hfetch (f := fetchC) (fun _ => rfl) .fetchC _) <|
    .after (hfetch (f := fetchB) (fun _ => rfl) .fetchB _) <|
    .after (hfetch (f := fetchA) (fun _ => rfl) .fetchA _) (stores_whenAction stores_writeD w .writeD s)

theorem stores_dataActions (w : Word) (s : State) : Stores s (dataActions w s) := by
  obtain ⟨f, h⟩ := dataHolds_changes w (dataTransfers w s)
  unfold dataActions
  rw [h]
  exact (stores_dataTransfers w s).trans_mem rfl

theorem stores_microTransfer (w : Word) (s : State) : Stores s (microTransfer w s) :=
  .after (stores_dataTransfers w _) (.ite (.of_mem rfl) (.refl s))

theorem microActions_mem (w : Word) (s : State) : (microActions w s).mem = s.mem := by
  obtain ⟨b, h⟩ := microActions_changes w s
  rw [h]

theorem stores_executeMicro (w : Word) (s : State) : Stores s (executeMicro w s) :=
  (stores_microTransfer w s).trans_mem (microActions_mem w _)

theorem stores_runData (words : List Word) (n : Nat) (s : State) : Stores s (runData words n s) := by
  induction n generalizing s with
  | zero => exact .refl s
  | succ n ih =>
    unfold runData
    split
    · exact .refl s
    · exact .ite (stores_dataActions _ s) (.after (ih _) (stores_dataActions _ s))

theorem stores_fastBlit (s : State) : Stores s (fastBlit s) :=
  .after (.of_mem rfl) <| .after (stores_runData _ _ _) (.of_mem rfl)

theorem stores_linePixel (s : State) : Stores s (linePixel s) :=
  .after (.of_mem rfl) <| .after (.ite (stores_chipWrite16 _ _ _) (.refl _)) (.ite (.of_mem rfl) (.refl s))

theorem stores_linePixels (n : Nat) (s : State) : Stores s (linePixels n s) := by
  induction n generalizing s with
  | zero => exact .refl s
  | succ n ih => exact .after (ih _) (stores_linePixel s)

theorem stores_lineBlit (s : State) : Stores s (lineBlit s) :=
  .after (.of_mem rfl) <| .after (stores_linePixels _ _) (.of_mem rfl)

theorem stores_launch (v : Word) (s : State) : Stores s (launch v s) := by
  refine .after (.ite (stores_lineBlit _) ?_) (.of_mem rfl)
  split
  · exact .of_mem rfl
  · exact stores_fastBlit _

/-! ### The custom registers and the instructions -/

/-- Either of two states with the memory `m`. -/
theorem mem_ite {c : Prop} [Decidable c] {m : Mem} (ht : t.mem = m) (hu : u.mem = m) :
    (if c then t else u).mem = m := by
  split
  · exact ht
  · exact hu

theorem applySystem_mem (off : Nat) (v : Word) (s : State) : (applySystem off v s).mem = s.mem := by
  unfold applySystem
  split_ifs <;> rfl

theorem applyControl_mem (off : Nat) (v : Word) (s : State) : (applyControl off v s).mem = s.mem := by
  unfold applyControl
  iterate 14 refine mem_ite rfl ?_
  rfl

theorem applyBitplane_mem (off : Nat) (v : Word) (s : State) : (applyBitplane off v s).mem = s.mem := by
  unfold applyBitplane
  split_ifs <;> rfl

theorem writeAttach_mem (n : Fin 8) (v : Word) (s : State) : (writeAttach n v s).mem = s.mem := by
  unfold writeAttach
  split <;> rfl

theorem applySprite_mem (off : Nat) (v : Word) (s : State) : (applySprite off v s).mem = s.mem := by
  unfold applySprite
  split_ifs
  · rfl
  · exact writeAttach_mem _ v _
  · rfl
  · rfl

/-- Of the register writes only the launch of a blit stores. -/
theorem stores_applyReg (off : Nat) (v : Word) (s : State) : Stores s (applyReg off v s) := by
  unfold applyReg
  split_ifs
  · exact .of_mem (applySystem_mem off v s)
  · exact stores_launch v s
  · exact .of_mem rfl
  · exact .of_mem (applyControl_mem off v s)
  · exact .of_mem (applyBitplane_mem off v s)
  · exact .of_mem rfl
  · exact .of_mem (applySprite_mem off v s)
  · exact .of_mem rfl

theorem stores_registerWrite (off : Nat) (v : Word) (s : State) : Stores s (registerWrite off v s) := by
  obtain h | h | h | h | h := registerWrite_cases off v s <;> rw [h]
  · exact .refl s
  · exact .of_mem rfl
  · exact .of_mem rfl
  · exact .of_mem rfl
  · exact stores_applyReg off v s

theorem readEffect_mem (off : Nat) (s : State) : (readEffect off s).mem = s.mem := by
  unfold readEffect
  split <;> rfl

theorem stores_registerRead (off : Nat) (s : State) : Stores s (registerRead off s) := by
  have hback : Stores s (setReadData ((busQuirk s).setWidth 32) (registerWrite off (busQuirk s) s)) :=
    (stores_registerWrite off _ s).trans_mem rfl
  unfold registerRead
  split
  · exact (Stores.of_mem (readEffect_mem off s)).trans_mem rfl
  · exact .of_mem rfl
  · exact .of_mem rfl
  all_goals exact hback

theorem stores_accessRegister (off : Nat) (op : RegOp) (s : State) : Stores s (accessRegister off op s) := by
  cases op with
  | read => exact stores_registerRead off s
  | write v => exact stores_registerWrite off v s

theorem stores_applyWrites (l : List PendingWrite) (s : State) : Stores s (applyWrites l s) := by
  induction l generalizing s with
  | nil => exact .refl s
  | cons p l ih => exact .after (ih _) (stores_applyReg _ _ s)

theorem stores_applyDue (s : State) : Stores s (applyDue s) := by
  unfold applyDue
  dsimp only
  split <;> exact .after (.of_mem rfl) <| .after (stores_applyWrites _ _) (.of_mem rfl)

theorem stores_execCopperMove (ra : BitVec 8) (data : Word) (s : State) :
    StoresResult s (execCopperMove ra data s) := by
  have hwrite := stores_registerWrite (moveDest ra) data s
  unfold execCopperMove
  split
  · exact .next (.of_mem rfl)
  · exact .next (.ite (hwrite.trans_mem rfl) hwrite)

/-- Every instruction changes memory by stores alone. -/
theorem stores_exec (i : Instr) (s : State) : StoresResult s (exec i s) := by
  obtain ⟨ra, data, h⟩ | ⟨_, _, _, _, _, h⟩ | ⟨_, _, _, _, _, h⟩ | ⟨w, h⟩ | ⟨index, h⟩ | h | h | ⟨off, op, h⟩ :=
    exec_cases i s <;> rw [h]
  · exact stores_execCopperMove ra data s
  · exact .next (.of_mem rfl)
  · exact .next (.of_mem rfl)
  · exact .next (stores_executeMicro w s)
  · exact .next (.of_mem rfl)
  · exact .next (.of_mem rfl)
  · exact .next (stores_fastBlit s)
  · exact .next (stores_accessRegister off op s)

/-! ### The CPU port -/

theorem stores_read16 (a : Addr) (s : State) : StoresResult s (read16 a s) := by
  unfold read16
  split
  · exact stores_exec _ s
  all_goals exact .next (.of_mem rfl)

theorem stores_read8 (a : Addr) (s : State) : StoresResult s (read8 a s) := by
  unfold read8
  split
  · exact (stores_exec _ s).andThen fun _ => .next (.of_mem rfl)
  all_goals exact .next (.of_mem rfl)

theorem stores_write16 (a : Addr) (v : Word) (s : State) : StoresResult s (write16 a v s) := by
  unfold write16
  split
  · exact stores_exec _ s
  iterate 4 exact .next (.of_mem rfl)
  all_goals exact .next (.after (stores_storeByte _ _ _ _) (stores_storeByte _ _ _ s))

theorem stores_write8 (a : Addr) (v : Byte) (s : State) : StoresResult s (write8 a v s) := by
  unfold write8
  split
  · exact stores_exec _ s
  iterate 4 exact .next (.of_mem rfl)
  all_goals exact .next (stores_storeByte _ _ _ s)

theorem flagOdd_mem (a : Addr) (width : Nat) (write : Bool) (s : State) : (flagOdd a width write s).mem = s.mem := by
  unfold flagOdd
  split <;> rfl

theorem stores_accessTransfer (op : CpuOp) (a : Addr) (s : State) : StoresResult s (accessTransfer op a s) := by
  have hflag (width : Nat) (write : Bool) : Stores s (flagOdd a width write s) := .of_mem (flagOdd_mem a width write s)
  cases op with
  | read8 => exact stores_read8 a s
  | read16 => exact (stores_read16 _ _).after (hflag 2 false)
  | read32 => exact (stores_read16 _ _).after (hflag 4 false)
  | write8 v => exact stores_write8 a v s
  | write16 v => exact (stores_write16 _ _ _).after (hflag 2 true)
  | write32 v => exact (stores_write16 _ _ _).after (hflag 4 true)
  | readLow hi => exact (stores_read16 _ s).andThen fun _ => .next (.of_mem rfl)

theorem finishAccess_mem (acc : CpuAccess) (rest : List CpuAccess) (cost : Nat) (later : List CpuInstr) (s : State) :
    (finishAccess acc rest cost later s).mem = s.mem := by
  obtain ⟨queue, clock, h⟩ := continueInstr_changes (secondHalf acc.op (acc.addr.setWidth 24) s ++ rest) cost later
    { s with bus := { s.bus with reqCPU := false, cpuClock := s.now + 2#64 } }
  unfold finishAccess
  rw [h]

theorem runIdle_mem (l : List CpuInstr) (s : State) : (runIdle l s).mem = s.mem := by
  obtain ⟨queue, clock, h⟩ := runIdle_changes l s
  rw [h]

theorem stores_issueAccess (acc : CpuAccess) (rest : List CpuAccess) (cost : Nat) (later : List CpuInstr)
    (s : State) : StoresResult s (issueAccess acc rest cost later s) := by
  unfold issueAccess
  split_ifs
  · exact .next (.refl s)
  · exact .next (.of_mem rfl)
  · exact (stores_accessTransfer _ _ s).andThen fun u => .next (.of_mem (finishAccess_mem acc rest cost later u))

theorem stores_cpuIssue (s : State) : StoresResult s (cpuIssue s) := by
  have hnext (u : State) : StoresResult u (issueNext u) := by
    unfold issueNext
    split
    · exact stores_issueAccess _ _ _ _ u
    · exact .next (.refl u)
    · exact .next (.refl u)
  unfold cpuIssue
  split
  · exact .next (.refl s)
  · exact (hnext _).after (.of_mem (runIdle_mem _ s))

theorem stores_cpuTransfer (s : State) : StoresResult s (cpuTransfer s) := by
  unfold cpuTransfer
  split
  · exact (stores_accessTransfer _ _ s).andThen fun _ => .next (.of_mem (finishAccess_mem _ _ _ _ _))
  · exact .next (.of_mem rfl)
  · exact .next (.of_mem rfl)

/-! ### Agnus and Denise -/

theorem windowTick_mem (s : State) : (windowTick s).mem = s.mem := by
  unfold windowTick
  dsimp only
  split <;> rfl

theorem arbitrate_mem (s : State) : (arbitrate s).mem = s.mem := by
  unfold arbitrate
  dsimp only
  split_ifs <;> rfl

theorem stores_diskTransfer (s : State) : Stores s (diskTransfer s) :=
  .ite ((stores_chipWrite16 _ _ s).trans_mem rfl) (.of_mem rfl)

theorem stores_spriteTransfer (n : Fin 8) (s : State) : Stores s (spriteTransfer n s) :=
  .after (stores_registerWrite _ _ _) (.of_mem rfl)

theorem stores_bitplaneTransfer (p : Fin 6) (s : State) : Stores s (bitplaneTransfer p s) :=
  .after (stores_registerWrite _ _ _) (.of_mem rfl)

theorem shifterTick_mem (s : State) : (shifterTick s).mem = s.mem := by
  unfold shifterTick
  split <;> rfl

theorem diwHorizontal_mem (s : State) : (diwHorizontal s).mem = s.mem := by
  unfold diwHorizontal
  dsimp only
  split_ifs <;> rfl

theorem translate_mem (n x : Nat) (s : State) : (translate n x s).1.mem = s.mem := by
  induction n generalizing x s with
  | zero => rfl
  | succ n ih => exact ih (x + 1) (translatePixel x s).1

theorem replayFrom_mem (l : List LogEntry) (x : Nat) (s : State) : (replayFrom l x s).1.mem = s.mem := by
  induction l generalizing x s with
  | nil => exact translate_mem _ x s
  | cons e l ih => exact (ih _ _).trans (translate_mem (entryPixel e - x) x s)

theorem storeRow_mem (v : Nat) (row : List (BitVec 32)) (s : State) : (storeRow v row s).mem = s.mem := by
  unfold storeRow
  split_ifs <;> rfl

theorem endOfLine_mem (s : State) : (endOfLine s).mem = s.mem :=
  (storeRow_mem _ _ _).trans (replayFrom_mem _ _ _)

theorem windowLineEnd_mem (s : State) : (windowLineEnd s).mem = s.mem := by
  unfold windowLineEnd
  split <;> rfl

theorem swapFrames_mem (s : State) : (swapFrames s).mem = s.mem := by
  unfold swapFrames
  split <;> rfl

theorem newLine_mem (s : State) : (newLine s).mem = s.mem := by
  have hline : (endOfLine (windowLineEnd s)).mem = s.mem := (endOfLine_mem _).trans (windowLineEnd_mem s)
  unfold newLine
  dsimp only
  split
  · exact (swapFrames_mem _).trans hline
  · exact hline

/-- The end of a slot leaves memory. -/
theorem finishSlot_mem (s : State) : (finishSlot s).mem = s.mem := by
  have hbefore : (diwHorizontal (shifterTick s)).mem = s.mem := (diwHorizontal_mem _).trans (shifterTick_mem s)
  unfold finishSlot beamAdvance
  dsimp only
  split
  · exact (newLine_mem _).trans hbefore
  · exact hbefore

/-! ### The slot -/

theorem stores_withMicro {f : Word → Instr → Result} (s : State) (hf : ∀ w i, StoresResult s (f w i)) :
    StoresResult s (withMicro f s) := by
  unfold withMicro
  split
  · exact .next (.refl s)
  · split
    · exact hf _ _
    · rintro _ ⟨⟩

theorem copperFetch_mem (s : State) : (copperFetch s).mem = s.mem := by
  unfold copperFetch
  dsimp only
  split <;> rfl

theorem copperRecheck_mem (s : State) : (copperRecheck s).mem = s.mem := by
  unfold copperRecheck
  dsimp only
  split <;> rfl

theorem stores_copperStep (o : BusOwner) (s : State) : StoresResult s (copperStep o s) := by
  have hfetch : StoresResult s (.next (if o = .copper then copperFetch s else s)) :=
    .next (.ite (.of_mem (copperFetch_mem s)) (.refl s))
  unfold copperStep
  split
  · exact hfetch
  · exact hfetch
  · exact stores_exec _ s
  · exact .next (.of_mem (copperRecheck_mem s))
  · exact .next (.of_mem rfl)
  · exact .next (.refl s)

theorem stores_blitterStep (o : BusOwner) (s : State) : StoresResult s (blitterStep o s) := by
  refine stores_withMicro s fun w i => ?_
  split
  · exact .next (.of_mem (microActions_mem w s))
  · exact stores_exec i s

theorem stores_bitplaneStep (o : BusOwner) (s : State) : Stores s (bitplaneStep o s) := by
  unfold bitplaneStep
  split
  · exact .ite (stores_bitplaneTransfer _ s) (.refl s)
  · exact .refl s

theorem stores_handleEvent (o : BusOwner) (i : Fin 13) (s : State) : StoresResult s (handleEvent o i s) := by
  have hcancel : Stores s (cancel i s) := .of_mem rfl
  obtain ⟨-, h⟩ | ⟨-, h⟩ | ⟨-, h⟩ | ⟨-, h⟩ | ⟨-, h⟩ := handleEvent_cases o i s <;> rw [h]
  · exact .next (stores_applyDue s)
  · exact (stores_copperStep o _).after hcancel
  · exact (stores_blitterStep o _).after hcancel
  · exact .next (.after (stores_bitplaneStep o _) hcancel)
  · exact .next (.of_mem rfl)

theorem stores_serveEvent (o : BusOwner) (i : Fin 13) (s : State) : StoresResult s (serveEvent o i s) := by
  unfold serveEvent
  split
  · exact stores_handleEvent o i s
  · exact .next (.refl s)

theorem stores_serveEvents (o : BusOwner) (l : List (Fin 13)) (s : State) : StoresResult s (serveEvents o l s) :=
  fun t h => serveEvents_keeps (P := Stores s) o (fun i u v hu hv => .after (stores_handleEvent o i u v hv) hu) l s t
    (.refl s) h

theorem stores_ownerTransfer (o : BusOwner) (s : State) : StoresResult s (ownerTransfer o s) := by
  unfold ownerTransfer
  cases o
  case none => exact .next (.refl s)
  case refresh => exact .next (.of_mem rfl)
  case disk => exact .next (stores_diskTransfer s)
  case audio => dsimp only; split <;> exact .next (.of_mem rfl)
  case sprite =>
    dsimp only
    split
    · exact .next (stores_spriteTransfer _ s)
    · exact .next (.refl s)
  case bitplane => exact stores_serveEvent _ _ s
  case copper => exact stores_serveEvent _ _ s
  case blitter => exact stores_withMicro s fun w _ => .next (stores_microTransfer w s)
  case cpu => exact stores_cpuTransfer s

theorem stores_busSlot (s : State) : StoresResult s (busSlot s) :=
  ((stores_ownerTransfer _ _).andThen fun u => stores_serveEvents _ lateSlots u).after (.of_mem (arbitrate_mem s))
    |>.andThen fun u => .next (.of_mem (finishSlot_mem u))

/-- A slot changes memory by byte stores alone. -/
theorem stores_slot (s : State) : StoresResult s (slot s) :=
  (stores_serveEvents _ _ s).andThen fun t => (stores_cpuIssue t).andThen fun u =>
    (stores_busSlot _).after (.of_mem (windowTick_mem u))

end Sys2Proof.Machine
end

section
/-! SUPPORT. What an input does to memory, and the two invariants of memory over a step. -/

namespace Sys2Proof.Machine

variable {s t : State}

/-! ### The inputs -/

/-- The two invariants of memory, each kept from `s` to `t`. -/
structure KeepsMemory (s t : State) : Prop where
  canonical : MemoryCanonical s → MemoryCanonical t
  table     : TableBuilt s → TableBuilt t

/-- An operation that leaves memory and the configuration alone. -/
theorem KeepsMemory.of_eq (hmem : t.mem = s.mem) (hcfg : t.cfg = s.cfg) : KeepsMemory s t := by
  constructor <;> intro h
  · unfold MemoryCanonical
    rwa [hmem]
  · unfold TableBuilt
    rwa [hmem, hcfg]

/-- Nothing changed. -/
theorem KeepsMemory.refl (s : State) : KeepsMemory s s := .of_eq rfl rfl

/-- One after the other. -/
theorem KeepsMemory.trans {u : State} (h : KeepsMemory s t) (k : KeepsMemory t u) : KeepsMemory s u :=
  ⟨k.canonical ∘ h.canonical, k.table ∘ h.table⟩

/-- The rebuilt table is the built one, whatever it was, and no memory changes (rule R103). -/
theorem keepsMemory_rebuildMemSrc (s : State) : KeepsMemory s (rebuildMemSrc s) := ⟨id, fun _ => rfl⟩

/-- Cleared memories are canonical, and the table is built with them. -/
theorem keepsMemory_cold (s : State) (c : Cfg) : KeepsMemory s (State.cold c) :=
  ⟨fun _ => ⟨rfl, rfl, rfl, rfl⟩, fun _ => rfl⟩

/-- An input that only a powered machine takes. -/
theorem keepsMemory_whenPowered {f : State → State} (hf : KeepsMemory s (f s)) : KeepsMemory s (whenPowered f s) := by
  unfold whenPowered
  split
  · exact hf
  · exact .refl s

theorem keepsMemory_takeInstructions (l : List CpuInstr) (s : State) : KeepsMemory s (takeInstructions l s) := by
  unfold takeInstructions
  dsimp only
  split <;> exact .of_eq rfl rfl

theorem keepsMemory_foreignSchedule (i : Fin 13) (trigger : BitVec 64) (id : Word) (s : State) :
    KeepsMemory s (foreignSchedule i trigger id s) := by
  unfold foreignSchedule
  split <;> exact .of_eq rfl rfl

/-- A configuration is taken with its table. -/
theorem keepsMemory_configure (c : Cfg) (s : State) : KeepsMemory s (configure c s) := by
  unfold configure
  split
  · exact ⟨id, fun _ => rfl⟩
  · exact .of_eq rfl rfl

/-- Reset keeps the memories and rebuilds the table (rules R561, R563). -/
theorem keepsMemory_reset (s : State) : KeepsMemory s (reset s) := by
  unfold reset
  split
  · exact ⟨id, fun _ => rfl⟩
  · exact .refl s

theorem keepsMemory_powerOff (s : State) : KeepsMemory s (powerOff s) := by
  unfold powerOff
  split
  · exact (keepsMemory_cold s s.cfg).trans (.of_eq rfl rfl)
  · exact .refl s

/-- Power-on clears memory, or leaves it. -/
theorem keepsMemory_powerOn (memory : Bool) (h : powerOn memory s = .next t) : KeepsMemory s t := by
  unfold powerOn at h
  split_ifs at h <;> cases h
  · exact .refl s
  · exact .of_eq rfl rfl
  · exact (keepsMemory_cold s s.cfg).trans (.of_eq rfl rfl)

/-- Every input keeps the two invariants: the table is rebuilt wherever the overlay line, the WOM lock or the
configuration changes. -/
theorem applyInput_keepsMemory (i : Input) (h : applyInput i s = .next t) : KeepsMemory s t := by
  cases i
  case powerOn memory => exact keepsMemory_powerOn memory h
  all_goals cases h
  case overlay level => exact keepsMemory_whenPowered ⟨id, fun _ => rfl⟩
  case womLock => exact keepsMemory_whenPowered ⟨id, fun _ => rfl⟩
  case irq source => exact keepsMemory_whenPowered (.of_eq rfl rfl)
  case disk port => exact .of_eq rfl rfl
  case audio n port => exact .of_eq rfl rfl
  case cpu l => exact keepsMemory_whenPowered (keepsMemory_takeInstructions l s)
  case schedule i trigger id => exact keepsMemory_whenPowered (keepsMemory_foreignSchedule i trigger id s)
  case configure c => exact keepsMemory_configure c s
  case reset => exact keepsMemory_reset s
  case powerOff => exact keepsMemory_powerOff s

theorem takeInputs_keepsMemory (l : List TimedInput) (h : takeInputs l s = .next t) : KeepsMemory s t := by
  induction l generalizing s with
  | nil =>
    cases h
    exact .of_eq rfl rfl
  | cons i l ih =>
    unfold takeInputs at h
    split at h
    · obtain ⟨u, hu, ht⟩ := (andThen_eq_next _ _ _).1 h
      exact (applyInput_keepsMemory _ hu).trans (ih ht)
    · cases h
      exact .of_eq rfl rfl

/-! ### The step -/

/-- A slot keeps both invariants: it changes memory by byte stores alone, and it keeps the configuration, the overlay
line and the WOM lock. -/
theorem slot_keepsMemory (h : slot s = .next t) : KeepsMemory s t := by
  have hstores : Stores s t := stores_slot s t h
  obtain ⟨u, hu, rfl⟩ := slot_eq_next h
  refine ⟨Mem.canonical_of_byteStores hstores, fun htable => ?_⟩
  calc u.mem.memSrc = s.mem.memSrc := Mem.memSrc_of_byteStores hstores
    _ = buildMemSrc s.cfg s.mem.ovl s.mem.womLocked := htable
    _ = buildMemSrc u.cfg u.mem.ovl u.mem.womLocked := by rw [hu.cfg, hu.ovl, hu.womLocked]

/-- A step keeps both invariants: its inputs do, then its slot. -/
theorem step_keepsMemory (h : step s = .next t) : KeepsMemory s t := by
  obtain ⟨u, hu, hslot⟩ := step_eq_next h
  have hinput : KeepsMemory s u := takeInputs_keepsMemory _ hu
  obtain ⟨-, hslot⟩ | ⟨-, rfl⟩ := hslot
  · exact hinput.trans (slot_keepsMemory hslot)
  · exact hinput

end Sys2Proof.Machine

namespace Sys2Proof.MemoryMap

open Sys2Proof.Machine

/-- Settles O9: the inputs keep, clear or leave the memories, and a slot changes them by byte stores alone. -/
theorem stepKeepsMemoryCanonical : Obligations.StepKeepsMemoryCanonical :=
  fun _ _ hs h => (step_keepsMemory h).canonical hs

/-- Settles O11: whatever changes what the table is built from rebuilds it. -/
theorem stepKeepsTableBuilt : Obligations.StepKeepsTableBuilt :=
  fun _ _ hs h => (step_keepsMemory h).table hs

end Sys2Proof.MemoryMap
end

section
/-! The region table under the overlay line, the bus value, the accesses of the CPU to storage and to addresses that
nothing answers, and the reads that write back. -/

namespace Sys2Proof.Machine

variable {s : State}

/-! ### The overlay line (rule R116) -/

/-- While the overlay line is high the pages `$00-$07` are ROM, whatever the configuration. -/
theorem buildMemSrc_overlay (c : Cfg) (womLocked : Bool) {p : Nat} (hp : p < 8) :
    (buildMemSrc c true womLocked).getD p .unmapped = .rom := by
  have hrange : p < 256 := by omega
  have hpage : p ≤ 0x07 := by omega
  simp [buildMemSrc, pageRegion, hrange, hpage]

/-- The overlay line moves, and the table is rebuilt for it. -/
theorem applyInput_overlay (hon : s.powered = true) (l : Bool) :
    applyInput (.overlay l) s =
      .next { s with mem := { s.mem with ovl := l, memSrc := buildMemSrc s.cfg l s.mem.womLocked } } := by
  simp [applyInput, whenPowered, hon, rebuildMemSrc]

/-- Reset of a powered machine. -/
theorem reset_of_powered (hon : s.powered = true) :
    reset s = notify .reset (rebuildMemSrc
      { State.cold s.cfg with mem := { s.mem with ovl := true }, frames := s.frames, ext := s.ext }) := by
  simp [reset, hon]

/-! ### The bus value (rule R122) -/

/-- In slot 0 there is no slot before. -/
theorem busQuirk_slot_zero (h : s.beam.h = 0#8) : busQuirk s = 0xFFFF#16 := by
  simp [busQuirk, h]

/-- In a line where no slot has two owners, an entry is the one its slot has. -/
theorem busEntryAt_of_mem {line : List BusEntry} (hnodup : (line.map BusEntry.slot).Nodup) {e : BusEntry}
    (he : e ∈ line) : busEntryAt line e.slot = some e := by
  unfold busEntryAt
  induction line with
  | nil => cases he
  | cons a l ih =>
    rw [List.map_cons, List.nodup_cons] at hnodup
    obtain ⟨hfresh, hl⟩ := hnodup
    rcases List.mem_cons.1 he with rfl | hmem
    · simp
    · have hne : a.slot ≠ e.slot := fun heq => hfresh (heq ▸ List.mem_map_of_mem hmem)
      rw [List.find?_cons_of_neg (by simpa using hne)]
      exact ih hl hmem

/-- A slot without an owner has no entry. -/
theorem busEntryAt_eq_none {line : List BusEntry} {h : Nat} (hline : ∀ e ∈ line, e.slot ≠ h) :
    busEntryAt line h = none := by
  simpa [busEntryAt] using hline

/-- An owner other than NONE is a DMA agent, unless it is the CPU. -/
theorem isDma_eq_true_iff {o : BusOwner} (h : o ≠ .none) : o.isDma = true ↔ o ≠ .cpu := by
  revert h
  cases o <;> decide

/-- In another slot the bus value is that of the slot before, when its owner was a DMA agent. -/
theorem busQuirk_of_entry {e : BusEntry} (hslot : s.beam.h ≠ 0#8)
    (hentry : busEntryAt s.bus.line (s.beam.h.toNat - 1) = some e) :
    busQuirk s = if e.owner.isDma then e.value else 0xFFFF#16 := by
  simp [busQuirk, hslot, hentry]

/-- Where the slot before had no owner the bus value is `$FFFF`. -/
theorem busQuirk_of_no_entry (hentry : busEntryAt s.bus.line (s.beam.h.toNat - 1) = none) :
    busQuirk s = 0xFFFF#16 := by
  simp [busQuirk, hentry]

end Sys2Proof.Machine

namespace Sys2Proof.MemoryMap

open Sys2Proof.Machine

/-- Settles O17: the table at reset is built with the line high; moving the line back rebuilds the table it had. -/
theorem overlay : Obligations.Overlay := by
  intro s hon
  refine ⟨?_, applyInput_overlay hon, fun htable => ?_⟩
  · rw [reset_of_powered hon]
    exact ⟨rfl, rfl, fun p hp => buildMemSrc_overlay s.cfg s.mem.womLocked hp⟩
  · refine ⟨_, applyInput_overlay hon _, (applyInput_overlay (by exact hon) _).trans ?_⟩
    exact congrArg (fun table => Host.Outcome.next { s with mem := { s.mem with memSrc := table } }) htable.symm

/-- Settles O26: the slot before has at most one entry, whose owner is no NONE. -/
theorem busValue : Obligations.BusValue := by
  intro s
  refine ⟨busQuirk_slot_zero, ?_, fun hfree => busQuirk_of_no_entry (busEntryAt_eq_none hfree)⟩
  rintro e hslot ⟨hnodup, howned⟩ he hbefore
  rw [busQuirk_of_entry hslot (hbefore ▸ busEntryAt_of_mem hnodup he)]
  by_cases hcpu : e.owner = .cpu
  · simp [hcpu, BusOwner.isDma]
  · simp [hcpu, (isDma_eq_true_iff (howned e he)).2 hcpu]

end Sys2Proof.MemoryMap
end

section
/-! The accesses of the CPU to storage, odd and unmapped accesses, and the reads that write the bus value back. -/

namespace Sys2Proof.Machine

variable {s t : State} {a : Addr}

/-! ### Storage by region -/

/-- The memory of a region that stores words. -/
def Mem.storage (m : Mem) : Region → Memory
  | .chip => m.chip
  | .slow => m.slow
  | .fast => m.fast
  | .wom => m.wom
  | .rom | .ext | .unmapped | .cia | .rtc | .custom | .autoconf => []

/-- The memory of a region replaced. -/
def Mem.setStorage (m : Mem) (r : Region) (x : Memory) : Mem :=
  match r with
  | .chip => { m with chip := x }
  | .slow => { m with slow := x }
  | .fast => { m with fast := x }
  | .wom => { m with wom := x }
  | .rom | .ext | .unmapped | .cia | .rtc | .custom | .autoconf => m

@[simp] theorem Mem.setStorage_memSrc (m : Mem) (r : Region) (x : Memory) : (m.setStorage r x).memSrc = m.memSrc := by
  cases r <;> rfl

@[simp] theorem Mem.setStorage_womLocked (m : Mem) (r : Region) (x : Memory) :
    (m.setStorage r x).womLocked = m.womLocked := by
  cases r <;> rfl

@[simp] theorem Mem.setStorage_setStorage (m : Mem) (r : Region) (x y : Memory) :
    (m.setStorage r x).setStorage r y = m.setStorage r y := by
  cases r <;> rfl

/-- A region's memory alone is replaced. -/
theorem Mem.storage_setStorage_other (m : Mem) {q r : Region} (h : r ≠ q) (x : Memory) :
    (m.setStorage r x).storage q = m.storage q := by
  cases r <;> cases q <;> simp [Mem.setStorage, Mem.storage] at h ⊢

/-- The fields that hold the four memories. -/
theorem Mem.setStorage_eq (m : Mem) (r : Region) (x : Memory) :
    m.setStorage r x = { m with
      chip := (m.setStorage r x).chip, slow := (m.setStorage r x).slow
      fast := (m.setStorage r x).fast, wom := (m.setStorage r x).wom } := by
  cases r <;> rfl

/-- The memory of a region that stores words, after it was replaced. -/
theorem storage_setStorage {r : Region} (hr : isRam s r) (m : Mem) (x : Memory) : (m.setStorage r x).storage r = x := by
  obtain rfl | rfl | rfl | ⟨rfl, -⟩ := hr <;> rfl

/-- The memory of every region is canonical. -/
theorem Mem.canonical.storage {m : Mem} (h : m.canonical) (r : Region) : (m.storage r).wf = true := by
  obtain ⟨hchip, hslow, hfast, hwom⟩ := h
  cases r
  case chip => exact hchip
  case slow => exact hslow
  case fast => exact hfast
  case wom => exact hwom
  all_goals rfl

/-- A stored word changes no other byte. -/
theorem Memory.byteAt_setWord_other {m : Memory} (hm : m.wf = true) {n k : Nat} (v : Word) (h : k ≠ n ∧ k ≠ n + 1) :
    (m.setWord n v).byteAt k = m.byteAt k := by
  rw [Memory.setWord, Memory.byteAt_setByte (Memory.wf_setByte hm n _), if_neg h.2, Memory.byteAt_setByte hm,
    if_neg h.1]

/-- A word stored in region `r` at its offset `off r` changes in region `q` no byte but those two. -/
theorem byteAt_storage_setWord {m : Mem} (hm : m.canonical) {q r : Region} (hr : isRam s r) (off : Region → Nat)
    (v : Word) {k : Nat} (h : r ≠ q ∨ (k ≠ off q ∧ k ≠ off q + 1)) :
    ((m.setStorage r ((m.storage r).setWord (off r) v)).storage q).byteAt k = (m.storage q).byteAt k := by
  by_cases hq : r = q
  · subst hq
    rw [storage_setStorage hr]
    exact Memory.byteAt_setWord_other (hm.storage r) v (h.resolve_left (not_not_intro rfl))
  · rw [Mem.storage_setStorage_other m hq]

/-! ### Offsets of the two bytes of a word -/

/-- The sizes of a legal configuration (rule R9). -/
theorem sizes_of_valid {c : Cfg} (h : Cfg.valid c = true) :
    c.chipSize % 2 = 0 ∧ c.slowSize % 2 = 0 ∧ c.fastSize % 0x10000 = 0 := by
  simp only [Cfg.valid, Bool.and_eq_true, and_assoc] at h
  obtain ⟨hchip, hslow, -, hfast, -⟩ := h
  simp at hchip hslow hfast
  omega

/-- A power of two above 1 is even. -/
theorem powerOfTwoCeil_even {n : Nat} (h : n ≠ 1) : powerOfTwoCeil n % 2 = 0 := by
  unfold powerOfTwoCeil
  split
  · omega
  · rw [Nat.pow_succ]
    omega

/-- The size of a RAM region is even. -/
theorem regionSize_even {r : Region} (hvalid : Cfg.valid s.cfg = true) (hr : isRam s r) :
    regionSize s.cfg r % 2 = 0 := by
  obtain ⟨hchip, hslow, hfast⟩ := sizes_of_valid hvalid
  obtain rfl | rfl | rfl | ⟨rfl, -⟩ := hr <;> rw [regionSize]
  · exact hchip
  · exact hslow
  · exact powerOfTwoCeil_even (by omega)
  · rw [womSize]

/-- A RAM region begins at an even address of the 24-bit address space. -/
theorem regionBase_even {r : Region} (hr : isRam s r) :
    regionBase s.cfg r % 2 = 0 ∧ regionBase s.cfg r < 0x1000000 := by
  obtain rfl | rfl | rfl | ⟨rfl, -⟩ := hr <;> simp only [regionBase] <;> decide

/-- The successor of an even number stays in the same block of an even size. -/
theorem succ_mod_of_even {x size : Nat} (hx : x % 2 = 0) (hsize : size % 2 = 0) :
    (x + 1) % size = x % size + 1 := by
  obtain ⟨half, rfl⟩ : 2 ∣ size := Nat.dvd_of_mod_eq_zero hsize
  have hrem : x % (2 * half) % 2 = 0 := by rw [Nat.mod_mul_right_mod, hx]
  rcases Nat.eq_zero_or_pos half with rfl | hpos
  · simp
  · have hbound : x % (2 * half) < 2 * half := Nat.mod_lt _ (by omega)
    rw [Nat.add_mod, Nat.mod_eq_of_lt (show 1 < 2 * half by omega), Nat.mod_eq_of_lt (by omega)]

/-- The low byte of a word follows its high byte (rule R106). -/
theorem regionOffset_succ {r : Region} (hvalid : Cfg.valid s.cfg = true) (hr : isRam s r)
    (heven : a.getLsbD 0 = false) : regionOffset s.cfg r (a + 1#24) = regionOffset s.cfg r a + 1 := by
  obtain ⟨hbase, hle⟩ := regionBase_even hr
  have ha : a.toNat % 2 = 0 := by simpa [BitVec.getLsbD, Nat.testBit_zero] using heven
  have hnext : (a + 1#24).toNat = a.toNat + 1 := by
    rw [BitVec.toNat_add, BitVec.toNat_ofNat]
    omega
  have hbelow : (a.toNat + 1 + 0x1000000 - regionBase s.cfg r) % 0x1000000 =
      (a.toNat + 0x1000000 - regionBase s.cfg r) % 0x1000000 + 1 := by omega
  unfold regionOffset
  rw [hnext, hbelow]
  exact succ_mod_of_even (by omega) (regionSize_even hvalid hr)

/-! ### Words of storage (rules R106, R107, R117) -/

/-- The region of an address depends on the configuration and the table alone. -/
theorem regionOf_congr (hcfg : t.cfg = s.cfg) (htable : t.mem.memSrc = s.mem.memSrc) (a : Addr) :
    regionOf t a = regionOf s a := by
  unfold regionOf beyondFast tableRegion
  rw [hcfg, htable]

/-- A byte stored in RAM. -/
theorem storeByte_of_ram {r : Region} (hr : isRam s r) (a : Addr) (v : Byte) :
    storeByte r a v s =
      { s with mem := s.mem.setStorage r ((s.mem.storage r).setByte (regionOffset s.cfg r a) v) } := by
  obtain rfl | rfl | rfl | ⟨rfl, hlock⟩ := hr
  · rfl
  · rfl
  · rfl
  · simp [storeByte, hlock, Mem.setStorage, Mem.storage]

/-- A byte read from RAM. -/
theorem storageByte_of_ram {r : Region} (hr : isRam s r) (a : Addr) :
    storageByte s r a = (s.mem.storage r).byteAt (regionOffset s.cfg r a) := by
  obtain rfl | rfl | rfl | ⟨rfl, -⟩ := hr <;> rfl

/-- A word written to RAM stores its two bytes, high first. -/
theorem write16_of_ram (hr : isRam s (regionOf s a)) (v : Word) :
    write16 a v s = .next (storeByte (regionOf s a) (a + 1#24) (v.extractLsb' 0 8)
      (storeByte (regionOf s a) a (v.extractLsb' 8 8) s)) := by
  unfold write16
  obtain h | h | h | ⟨h, -⟩ := hr <;> rw [h]

/-- A word read from RAM. -/
theorem read16_of_ram (hr : isRam s (regionOf s a)) :
    read16 a s = .next (setReadData
      ((wordOfBytes (storageByte s (regionOf s a) a) (storageByte s (regionOf s a) (a + 1#24))).setWidth 32) s) := by
  unfold read16
  obtain h | h | h | ⟨h, -⟩ := hr <;> rw [h]

/-- A word stored at an even address of a region's memory. -/
def storeWord (r : Region) (a : Addr) (v : Word) (s : State) : State :=
  { s with mem := s.mem.setStorage r ((s.mem.storage r).setWord (regionOffset s.cfg r a) v) }

/-- A region that stores words still does after a store. -/
theorem isRam_setStorage {q r : Region} (hr : isRam s r) (x : Memory) :
    isRam { s with mem := s.mem.setStorage q x } r := by
  obtain h | h | h | ⟨h, hlock⟩ := hr
  · exact .inl h
  · exact .inr (.inl h)
  · exact .inr (.inr (.inl h))
  · exact .inr (.inr (.inr ⟨h, (Mem.setStorage_womLocked _ _ _).trans hlock⟩))

/-- A word written to RAM at an even address is one word of its region's memory. -/
theorem write16_eq_storeWord (hvalid : Cfg.valid s.cfg = true) (heven : a.getLsbD 0 = false)
    (hr : isRam s (regionOf s a)) (v : Word) : write16 a v s = .next (storeWord (regionOf s a) a v s) := by
  rw [write16_of_ram hr, storeByte_of_ram hr, storeByte_of_ram (isRam_setStorage hr _), storeWord]
  simp only [storage_setStorage hr, Mem.setStorage_setStorage, regionOffset_succ hvalid hr heven, Memory.setWord]

/-- A word read from RAM at an even address is one word of its region's memory. -/
theorem read16_eq_wordAt (hvalid : Cfg.valid s.cfg = true) (heven : a.getLsbD 0 = false)
    (hr : isRam s (regionOf s a)) :
    read16 a s = .next (setReadData
      (((s.mem.storage (regionOf s a)).wordAt (regionOffset s.cfg (regionOf s a) a)).setWidth 32) s) := by
  rw [read16_of_ram hr, storageByte_of_ram hr, storageByte_of_ram hr, regionOffset_succ hvalid hr heven, Memory.wordAt]

/-- A word stored in RAM is read back from it (rule R117). -/
theorem read16_storeWord (hm : s.mem.canonical) (hvalid : Cfg.valid s.cfg = true) (heven : a.getLsbD 0 = false)
    (hr : isRam s (regionOf s a)) (v : Word) :
    read16 a (storeWord (regionOf s a) a v s) =
      .next (setReadData (v.setWidth 32) (storeWord (regionOf s a) a v s)) := by
  set t := storeWord (regionOf s a) a v s with ht
  have hregion : regionOf t a = regionOf s a := regionOf_congr (s := s) (t := t) rfl (Mem.setStorage_memSrc _ _ _) a
  have hram : isRam t (regionOf t a) := by
    rw [hregion]
    exact isRam_setStorage hr _
  have hword : (t.mem.storage (regionOf s a)).wordAt (regionOffset t.cfg (regionOf s a) a) = v := by
    rw [ht, storeWord, storage_setStorage hr, Memory.wordAt_setWord (hm.storage _)]
  rw [read16_eq_wordAt (s := t) hvalid heven hram, hregion, hword]

/-! ### Odd and unmapped addresses (rules R109, R111, R112) -/

/-- An address is the even address below it and its bit 0. -/
theorem evenAddr_add_bit (a : Addr) : evenAddr a + (a &&& 1#24) = a := by
  have hmask : (0xFFFFFE#24 &&& 1#24 : BitVec 24) = 0#24 := by decide
  have hall : (0xFFFFFE#24 ||| 1#24 : BitVec 24) = BitVec.allOnes 24 := by decide
  have hdisjoint : (a &&& 0xFFFFFE#24) &&& (a &&& 1#24) = 0#24 := by
    rw [BitVec.and_assoc, ← BitVec.and_assoc _ a, BitVec.and_comm _ a, BitVec.and_assoc, hmask]
    simp
  rw [evenAddr, BitVec.add_eq_or_of_and_eq_zero _ _ hdisjoint, ← BitVec.and_or_distrib_left, hall, BitVec.and_allOnes]

/-- At an odd address the access is made at the address below. -/
theorem evenAddr_of_odd (h : a.getLsbD 0 = true) : evenAddr a = a - 1#24 := by
  have hbit : a &&& 1#24 = 1#24 := by rw [BitVec.and_one_eq_setWidth_ofBool_getLsbD, h]; rfl
  rw [← hbit, eq_comm, BitVec.sub_eq_iff_eq_add]
  exact (evenAddr_add_bit a).symm

/-- An even address stays. -/
theorem evenAddr_of_even (h : a.getLsbD 0 = false) : evenAddr a = a := by
  have hbit : a &&& 1#24 = 0#24 := by rw [BitVec.and_one_eq_setWidth_ofBool_getLsbD, h]; rfl
  simpa [hbit] using evenAddr_add_bit a

/-- An odd address is recorded. -/
theorem flagOdd_of_odd (h : a.getLsbD 0 = true) (width : Nat) (write : Bool) :
    flagOdd a width write s =
      recordViolation { addr := a, width := width, write := write, cause := .oddAddress } s := by
  simp [flagOdd, h]

/-- An even address is not. -/
theorem flagOdd_of_even (h : a.getLsbD 0 = false) (width : Nat) (write : Bool) : flagOdd a width write s = s := by
  rw [flagOdd, if_neg (by rw [h]; decide)]

/-- On an unmapped page no access is one beyond FAST. -/
theorem beyondFast_of_unmapped (h : tableRegion s a = .unmapped) : beyondFast s a = false := by
  simp [beyondFast, h]

/-- A word read from an unmapped page is recorded and answers the bus value. -/
theorem read16_of_unmapped (h : tableRegion s a = .unmapped) :
    read16 a s = .next (setReadData ((busQuirk s).setWidth 32)
      (recordViolation { addr := a, width := 2, write := false, cause := .unmapped } s)) := by
  simp [read16, regionOf, missingCause, beyondFast_of_unmapped h, h]

/-- A word written to an unmapped page is recorded and ignored. -/
theorem write16_of_unmapped (h : tableRegion s a = .unmapped) (v : Word) :
    write16 a v s = .next (recordViolation { addr := a, width := 2, write := true, cause := .unmapped } s) := by
  simp [write16, regionOf, missingCause, beyondFast_of_unmapped h, h]

/-! ### Reads that write back (rules R122, R460) -/

/-- The classes whose read answers the bus value and writes it back. -/
def readsBack (off : Nat) : Bool := [RegClass.absent, .writeCollaborator, .writable].contains (regClass off)

/-- A read of such a register. -/
theorem registerRead_of_readsBack {off : Nat} (h : readsBack off = true) (s : State) :
    registerRead off s = setReadData ((busQuirk s).setWidth 32) (registerWrite off (busQuirk s) s) := by
  unfold readsBack at h
  unfold registerRead
  split
  case h_1 hclass => exact absurd (hclass ▸ h) (by decide)
  case h_2 hclass => exact absurd (hclass ▸ h) (by decide)
  case h_3 hclass => exact absurd (hclass ▸ h) (by decide)
  all_goals rfl

/-- The core's registers without a readable form are of those classes. -/
theorem readsBack_of_writeOnly :
    ∀ r ∈ writeOnlyRows ++ collaboratorWriteRows, readsBack r.1 = true :=
  List.all_eq_true.1 (by decide +kernel)

/-- The row of a register is the register operation at its offset. -/
def IsRegisterRow (r : Nat × (RegOp → Instr)) : Prop :=
  ∀ (op : RegOp) (s : State), exec (r.2 op) s = .next (accessRegister r.1 op s)

/-- So are the rows of the registers without a readable form. -/
theorem isRegisterRow_of_writeOnly : ∀ r ∈ writeOnlyRows ++ collaboratorWriteRows, IsRegisterRow r := by
  rw [List.forall_mem_append]
  constructor
  · repeat refine List.forall_mem_cons.2 ⟨fun _ _ => rfl, ?_⟩
    exact List.forall_mem_nil _
  · repeat refine List.forall_mem_cons.2 ⟨fun _ _ => rfl, ?_⟩
    exact List.forall_mem_nil _

end Sys2Proof.Machine

namespace Sys2Proof.MemoryMap

open Sys2Proof.Machine

/-- Settles O54: the two bytes are one word of the region's memory, and the region answers the read too. -/
theorem writeReadRoundTrip : Obligations.WriteReadRoundTrip := by
  intro s a v hm hvalid heven hr
  have hframe (q : Region) (k : Nat) := byteAt_storage_setWord hm (q := q) (k := k) hr (regionOffset s.cfg · a) v
  exact ⟨_, write16_eq_storeWord hvalid heven hr v, ⟨_, read16_storeWord hm hvalid heven hr v, rfl⟩, hframe .chip,
    hframe .slow, hframe .fast, hframe .wom,
    congrArg (fun m => { s with mem := m }) (Mem.setStorage_eq s.mem (regionOf s a) _)⟩

/-- Settles O55: an odd address is recorded and made even, an unmapped page is recorded. -/
theorem flaggedAccesses : Obligations.FlaggedAccesses := by
  intro s a v flagged
  constructor
  · intro hodd
    simp only [accessTransfer, evenAddr_of_odd hodd, flagOdd_of_odd hodd]
    exact ⟨rfl, rfl⟩
  · intro hpage heven
    simp only [accessTransfer, evenAddr_of_even heven, flagOdd_of_even heven]
    exact ⟨read16_of_unmapped hpage, write16_of_unmapped hpage v⟩

/-- Settles O27: each of these reads is the write of the bus value, then its answer. -/
theorem readBackWrites : Obligations.ReadBackWrites := by
  intro r hr s
  have hrow : IsRegisterRow r := isRegisterRow_of_writeOnly r hr
  have hback : readsBack r.1 = true := readsBack_of_writeOnly r hr
  exact ⟨_, hrow _ s, (hrow _ s).trans (congrArg Host.Outcome.next (registerRead_of_readsBack hback s))⟩

end Sys2Proof.MemoryMap
end

section
/-! The encodings: rule R158 bit by bit, the bytes of a code and their decoding, and the well-formedness of what is
decoded. -/

namespace Sys2Proof

/-! ### Rule R158 -/

/-- No two elements of a list may stand together exactly when it has at most one. -/
theorem pairwise_false_iff {α : Type} (l : List α) : l.Pairwise (fun _ _ => False) ↔ l.length ≤ 1 := by
  rcases l with _ | ⟨a, _ | ⟨b, l⟩⟩
  · simp
  · simp
  · simp [List.pairwise_cons, forall_and]

/-- The actions of the bus class are bits 0 to 5, in this order (rule R157). -/
theorem busClass_bitIndex : busClass.map MicroAction.bitIndex = List.range 6 := rfl

/-- A word holds at most one action of the bus class when no two of bits 0 to 5 are set. -/
theorem busClass_atMostOne_iff (w : Word) :
    (busClass.filter (hasAction w)).length ≤ 1 ↔
      ∀ i j : Nat, i < j → j < 6 → w.getLsbD i = true → w.getLsbD j = false := by
  have hbits : busClass.Pairwise (fun a b => hasAction w a → hasAction w b → False) ↔
      (List.range 6).Pairwise (fun i j => w.getLsbD i → w.getLsbD j → False) := by
    rw [← busClass_bitIndex, List.pairwise_map]
    rfl
  rw [← pairwise_false_iff, List.pairwise_filter, hbits, List.pairwise_iff_getElem]
  simp only [List.length_range, List.getElem_range, imp_false, Bool.not_eq_true]
  exact ⟨fun h i j hij hj => h i j (hij.trans hj) hj hij, fun h i j _ hj hij => h i j hij hj⟩

/-- Bits 15:12 are 0 in the words below `$1000`. -/
theorem highBits_eq_zero_iff (w : Word) : w &&& 0xF000#16 = 0#16 ↔ w.toNat < 0x1000 := by
  rw [show (0xF000#16 : Word) = BitVec.allOnes 16 <<< 12 by decide, ← BitVec.shiftLeft_ushiftRight]
  simp only [← BitVec.toNat_inj, BitVec.toNat_shiftLeft, BitVec.toNat_ushiftRight, Nat.shiftLeft_eq,
    Nat.shiftRight_eq_div_pow, BitVec.toNat_ofNat]
  omega

/-- Rule R158, bit by bit. -/
theorem microWellFormed_iff (w : Word) :
    microWellFormed w = true ↔
      (∀ i j : Nat, i < j → j < 6 → w.getLsbD i = true → w.getLsbD j = false) ∧
      (w.getLsbD 9 = true → w.getLsbD 8 = true) ∧ w.toNat < 0x1000 := by
  rw [← busClass_atMostOne_iff, ← highBits_eq_zero_iff]
  simp [microWellFormed, hasAction, MicroAction.bitIndex, and_assoc, imp_iff_not_or]

/-- A word is refused exactly when it breaks rule R158. -/
theorem decodeMicro_eq_error_iff (w : Word) :
    decodeMicro w = .error (.illFormedMicroWord w) ↔ microWellFormed w = false := by
  unfold decodeMicro
  cases microWellFormed w
  · simp
  · cases leadingAction w <;> simp

/-! ### The actions of a word -/

/-- The bit of an action (rule R157). -/
theorem getLsbD_bit (a : MicroAction) (i : Nat) : a.bit.getLsbD i = decide (i = a.bitIndex) := by
  have hsmall : a.bitIndex < 16 := by cases a <;> decide
  rw [MicroAction.bit, BitVec.getLsbD_shiftLeft, BitVec.getLsbD_one, Bool.eq_iff_iff]
  simp
  omega

/-- A word is its leading action's bit beside its other bits (rule R157). -/
theorem bit_or_others {w : Word} {a : MicroAction} (h : hasAction w a = true) : a.bit ||| (w &&& ~~~ a.bit) = w := by
  apply BitVec.eq_of_getLsbD_eq
  intro i hi
  simp only [BitVec.getLsbD_or, BitVec.getLsbD_and, BitVec.getLsbD_not, getLsbD_bit]
  by_cases hia : i = a.bitIndex
  · subst hia
    have hw : w.getLsbD a.bitIndex = true := h
    simp [hw]
  · simp [hia, hi]

/-- The other bits of a word do not hold its leading action. -/
theorem hasAction_others (w : Word) (a : MicroAction) : hasAction (w &&& ~~~ a.bit) a = false := by
  simp [hasAction, getLsbD_bit]

/-! ### Bytes -/

/-- Only the even offsets are offsets of a register operation (rule R160). -/
def Code.evenOffset : Code → Bool
  | .register off _ => !off.getLsbD 0
  | .copper _ _ | .micro _ | .program _ _ _ | .lineProgram | .fastPath => true

/-- The offset word of an even offset is accepted. -/
theorem offsetWord_accepted {off : RegOff} (h : off.getLsbD 0 = false) : off.setWidth 16 &&& 0xFE01#16 = 0#16 := by
  ext i hi
  have heven : off[0] = false := h
  interval_cases i <;> simp [heven]

/-- An accepted offset word holds an even offset. -/
theorem evenOffset_of_accepted {w : Word} (h : w &&& 0xFE01#16 = 0#16) (op : RegOp) :
    (Code.register (w.extractLsb' 0 9) op).evenOffset = true := by
  have hbit : w.getLsbD 0 = false := by simpa using congrArg (BitVec.getLsbD · 0) h
  rw [Code.evenOffset, BitVec.getLsbD_extractLsb', hbit]
  rfl

/-- The offset of an offset word. -/
theorem offset_of_offsetWord (off : RegOff) : (off.setWidth 16 : Word).extractLsb' 0 9 = off := by
  apply BitVec.eq_of_getLsbD_eq
  intro i hi
  have hword : i < 16 := by omega
  simp [hi, hword]

/-- A selector byte selects its entry. -/
theorem codeOfSelector_program : ∀ (shape : BitVec 4) (fill fast : Bool),
    codeOfSelector (0#2 ++ shape ++ BitVec.ofBool fill ++ BitVec.ofBool fast : BitVec 8) =
      some (.program shape fill fast) := by decide

/-- No selector byte selects a register operation. -/
theorem evenOffset_of_selector {b : Byte} {c : Code} (h : codeOfSelector b = some c) : c.evenOffset = true := by
  unfold codeOfSelector at h
  split_ifs at h
  all_goals
    cases h
    rfl

/-- A decoded instruction beside the bytes that follow. -/
theorem eq_ok_of_map_eq_ok {x : Except DecodeError Instr} {i : Instr} {rest rest' : List Byte}
    (h : x.map (fun j => (j, rest')) = .ok (i, rest)) : x = .ok i := by
  cases x <;> cases h
  rfl

/-- The bytes of a code are read as the code, whatever follows. -/
theorem decodeBytes_bytesOfCode {c : Code} (h : c.evenOffset = true) (rest : List Byte) :
    decodeBytes (bytesOfCode c).1 ((bytesOfCode c).2 ++ rest) = (decode c).map (fun i => (i, rest)) := by
  cases c with
  | copper ir1 ir2 => simp [bytesOfCode, bytesOfWord, decodeBytes, decode, Machine.wordOfBytes_halves, Except.map]
  | micro w => simp [bytesOfCode, bytesOfWord, decodeBytes, decode, Machine.wordOfBytes_halves]
  | register off op =>
    have heven : off.getLsbD 0 = false := by simpa [Code.evenOffset] using h
    cases op <;>
      simp [bytesOfCode, bytesOfWord, decodeBytes, decode, Machine.wordOfBytes_halves, offsetWord_accepted heven,
        offset_of_offsetWord, Except.map]
  | program shape fill fast => simp [bytesOfCode, decodeBytes, codeOfSelector_program]
  | lineProgram => rfl
  | fastPath => rfl

/-- What is read from bytes is a code with an even offset, decoded. -/
theorem exists_code_of_decodeBytes {sp : Space} {bytes rest : List Byte} {i : Instr}
    (h : decodeBytes sp bytes = .ok (i, rest)) : ∃ c : Code, c.evenOffset = true ∧ decode c = .ok i := by
  unfold decodeBytes at h
  split at h
  case h_1 a b c d rest' =>
    cases h
    exact ⟨.copper _ _, rfl, rfl⟩
  case h_2 a b rest' =>
    refine ⟨.micro (wordOfBytes a b), rfl, ?_⟩
    exact eq_ok_of_map_eq_ok h
  case h_3 a b rest' =>
    split at h
    case isTrue haccepted =>
      cases h
      exact ⟨.register _ _, evenOffset_of_accepted haccepted _, rfl⟩
    case isFalse => cases h
  case h_4 a b c d rest' =>
    split at h
    case isTrue haccepted =>
      cases h
      exact ⟨.register _ _, evenOffset_of_accepted haccepted _, rfl⟩
    case isFalse => cases h
  case h_5 a rest' =>
    split at h
    case h_1 c hc =>
      exact ⟨c, evenOffset_of_selector hc, eq_ok_of_map_eq_ok h⟩
    case h_2 => cases h
  case h_6 => cases h

/-! ### What is encoded and what is decoded -/

/-- A well-formed instruction's code has an even offset. -/
theorem evenOffset_encode {i : Instr} (h : wellFormed i = true) : (encode i).evenOffset = true := by
  cases i
  case accessUnimplementedOffset off op =>
    obtain ⟨heven, -⟩ := (Bool.and_eq_true _ _).mp h
    exact heven
  all_goals rfl

/-- Decoding inverts encoding. -/
theorem decode_encode {i : Instr} (h : wellFormed i = true) : decode (encode i) = .ok i := by
  cases i
  case copperMove => exact Laws.RoundTrip.copperMove _ _ h
  case copperWait => exact Laws.RoundTrip.copperWait _ _ _ _ _ h
  case copperSkip => exact Laws.RoundTrip.copperSkip _ _ _ _ _ h
  case uopBusidle => exact Laws.RoundTrip.uopBusidle _ h
  case uopBus => exact Laws.RoundTrip.uopBus _ h
  case uopWriteD => exact Laws.RoundTrip.uopWriteD _ h
  case uopFetchA => exact Laws.RoundTrip.uopFetchA _ h
  case uopFetchB => exact Laws.RoundTrip.uopFetchB _ h
  case uopFetchC => exact Laws.RoundTrip.uopFetchC _ h
  case uopHoldA => exact Laws.RoundTrip.uopHoldA _ h
  case uopHoldB => exact Laws.RoundTrip.uopHoldB _ h
  case uopHoldD => exact Laws.RoundTrip.uopHoldD _ h
  case uopFill => exact Laws.RoundTrip.uopFill _ h
  case uopBltdone => exact Laws.RoundTrip.uopBltdone _ h
  case uopRepeat => exact Laws.RoundTrip.uopRepeat _ h
  case accessUnimplementedOffset => exact Laws.RoundTrip.accessUnimplementedOffset _ _ h
  all_goals rfl

/-- The rows of rule R67 are at the offsets that it names. -/
theorem regRows_offsets : regRows.map Prod.fst = namedOffsets := by decide +kernel

/-- Every row of rule R67 is well-formed, whatever its access. -/
theorem wellFormed_of_mem_regRows (op : RegOp) : ∀ r ∈ regRows, wellFormed (r.2 op) = true := by
  simp only [regRows, List.forall_mem_append, and_assoc]
  refine ⟨?_, ?_, ?_, ?_, ?_, ?_, ?_, ?_, ?_, ?_⟩
  all_goals exact List.all_eq_true.1 rfl

/-- Every row of rule R321 is well-formed. -/
theorem wellFormed_of_mem_programRows : ∀ i ∈ programRows, wellFormed i = true := by decide

/-- A register operation at an even offset is well-formed: its offset has a row or is of class `-`. -/
theorem wellFormed_decodeRegister {off : RegOff} (h : off.getLsbD 0 = false) (op : RegOp) :
    wellFormed (decodeRegister off op) = true := by
  unfold decodeRegister
  split
  case h_1 r hr => exact wellFormed_of_mem_regRows op r (List.mem_of_find?_eq_some hr)
  case h_2 hnone =>
    have hunnamed : off.toNat ∉ namedOffsets := by
      rw [← regRows_offsets]
      intro hmem
      obtain ⟨r, hr, hoff⟩ := List.mem_map.1 hmem
      exact List.find?_eq_none.1 hnone r hr (beq_iff_eq.2 hoff)
    simp only [wellFormed, unimplementedOffset, h, Bool.not_false, Bool.true_and, Bool.not_eq_true']
    simpa using hunnamed

/-- A program is well-formed. -/
theorem wellFormed_decodeProgram (shape : BitVec 4) (fill fast : Bool) :
    wellFormed (decodeProgram shape fill fast) = true := by
  unfold decodeProgram
  by_cases hlt : programIndex shape fill fast < programRows.length
  · rw [List.getD_eq_getElem _ _ hlt]
    exact wellFormed_of_mem_programRows _ (List.getElem_mem hlt)
  · rw [List.getD_eq_default _ _ (not_lt.1 hlt)]
    rfl

/-- The term of a leading action is checked as such. -/
theorem wellFormed_microInstr (a : MicroAction) (rest : Word) :
    wellFormed (microInstr a rest) = microTermWellFormed a rest := by
  cases a <;> rfl

/-- The ways in which a micro-instruction word decodes. -/
theorem decodeMicro_eq_ok {w : Word} {i : Instr} (h : decodeMicro w = .ok i) :
    microWellFormed w = true ∧
      ((leadingAction w = none ∧ i = .uopNothing) ∨
        ∃ a, leadingAction w = some a ∧ i = microInstr a (w &&& ~~~ a.bit)) := by
  unfold decodeMicro at h
  split at h
  case isTrue hwf =>
    refine ⟨hwf, ?_⟩
    split at h
    case h_1 hnone =>
      cases h
      exact .inl ⟨hnone, rfl⟩
    case h_2 a ha =>
      cases h
      exact .inr ⟨a, ha, rfl⟩
  case isFalse => cases h

/-- A leading action is an action of its word. -/
theorem hasAction_of_leadingAction {w : Word} {a : MicroAction} (h : leadingAction w = some a) : hasAction w a = true :=
  List.find?_some h

/-- A decoded micro-instruction is well-formed. -/
theorem wellFormed_of_decodeMicro {w : Word} {i : Instr} (h : decodeMicro w = .ok i) : wellFormed i = true := by
  obtain ⟨hwf, ⟨-, rfl⟩ | ⟨a, ha, rfl⟩⟩ := decodeMicro_eq_ok h
  · rfl
  · rw [wellFormed_microInstr, microTermWellFormed, bit_or_others (hasAction_of_leadingAction ha), hasAction_others,
      hwf, ha]
    simp

/-- What a code with an even offset decodes to is well-formed. -/
theorem wellFormed_of_decode {c : Code} {i : Instr} (heven : c.evenOffset = true) (h : decode c = .ok i) :
    wellFormed i = true := by
  cases c with
  | copper ir1 ir2 =>
    cases h
    unfold decodeCopper
    split_ifs <;> rfl
  | micro w => exact wellFormed_of_decodeMicro h
  | register off op =>
    cases h
    exact wellFormed_decodeRegister (by simpa [Code.evenOffset] using heven) op
  | program shape fill fast =>
    cases h
    exact wellFormed_decodeProgram shape fill fast
  | lineProgram =>
    cases h
    rfl
  | fastPath =>
    cases h
    rfl

end Sys2Proof

namespace Sys2Proof.Encoding

/-- Settles O2: decoding inverts encoding on codes, and the bytes of a code are read as the code. -/
theorem bytesRoundTrip : Obligations.BytesRoundTrip := by
  intro i rest h
  rw [decodeBytes_bytesOfCode (evenOffset_encode h), decode_encode h]
  rfl

/-- Settles O3: what is read from bytes is a code with an even offset, and each decodes to a well-formed instruction. -/
theorem decodedIsWellFormed : Obligations.DecodedIsWellFormed := by
  intro sp bytes rest i h
  obtain ⟨c, heven, hc⟩ := exists_code_of_decodeBytes h
  exact wellFormed_of_decode heven hc

/-- Settles O4: the three ways are the negations of the three parts of rule R158. -/
theorem microWordsRefused : Obligations.MicroWordsRefused := by
  intro w
  rw [decode, decodeMicro_eq_error_iff, ← Bool.not_eq_true (microWellFormed w), microWellFormed_iff]
  simp only [not_and_or, not_forall, not_lt, Bool.not_eq_false, Bool.not_eq_true, exists_prop]

/-- Settles O1: each word is evaluated. -/
theorem wordsDecode : Obligations.WordsDecode := by
  unfold Obligations.WordsDecode
  decide

end Sys2Proof.Encoding
end

section
/-! The halves of a DMA pointer (rule R161), bit by bit through their masks. -/

namespace Sys2Proof.Machine

/-- The pointer mask, bit by bit (rule R11). -/
theorem getLsbD_dmaMask (c : Cfg) {i : Nat} (hi : i < 32) : (dmaMask c).getLsbD i = decide (i < c.dmaAddrBits) := by
  rw [dmaMask, BitVec.getLsbD_ofNat, Nat.testBit_two_pow_sub_one]
  simp [hi]

/-- The mask of a pointer's low half, bit by bit. -/
theorem getLsbD_lowHalf {i : Nat} (hi : i < 32) : (0xFFFF#32).getLsbD i = decide (i < 16) := by
  revert i
  decide

/-- The mask of a pointer's high half, bit by bit. -/
theorem getLsbD_highHalf {i : Nat} (hi : i < 32) : (0xFFFF0000#32).getLsbD i = decide (16 ≤ i) := by
  revert i
  decide

/-- The mask of the bits that a low half writes, bit by bit. -/
theorem getLsbD_lowHalfEven {i : Nat} (hi : i < 32) : (0xFFFE#32).getLsbD i = decide (0 < i ∧ i < 16) := by
  revert i
  decide

/-- A written high half, bit by bit. -/
theorem getLsbD_setPtrHigh (c : Cfg) (v : Word) (p : Ptr) {i : Nat} (hi : i < 32) :
    (setPtrHigh c v p).getLsbD i =
      if i < 16 then p.getLsbD i else decide (i < c.dmaAddrBits) && v.getLsbD (i - 16) := by
  simp only [setPtrHigh, BitVec.getLsbD_or, BitVec.getLsbD_and, BitVec.getLsbD_shiftLeft, BitVec.getLsbD_setWidth,
    getLsbD_dmaMask c hi, getLsbD_lowHalf hi]
  by_cases hlow : i < 16
  · simp [hlow]
  · simp [hlow, hi, Bool.and_comm, show i - 16 < 32 by omega]

/-- A written low half, bit by bit. -/
theorem getLsbD_setPtrLow (v : Word) (p : Ptr) {i : Nat} (hi : i < 32) :
    (setPtrLow v p).getLsbD i = if i = 0 then false else if i < 16 then v.getLsbD i else p.getLsbD i := by
  simp only [setPtrLow, BitVec.getLsbD_or, BitVec.getLsbD_and, BitVec.getLsbD_setWidth, getLsbD_highHalf hi,
    getLsbD_lowHalfEven hi]
  by_cases hzero : i = 0
  · simp [hzero]
  · by_cases hlow : i < 16
    · simp [hzero, hlow, hi, Nat.pos_of_ne_zero hzero]
    · simp [hzero, hlow, not_lt.1 hlow]

end Sys2Proof.Machine

namespace Sys2Proof.Encoding

open Sys2Proof.Machine

/-- Settles O31: each half by the masks that it keeps and writes. -/
theorem pointerHalves : Obligations.PointerHalves :=
  fun c v p _ _ _ hi => ⟨getLsbD_setPtrHigh c v p hi, getLsbD_setPtrLow v p hi⟩

end Sys2Proof.Encoding
end

section
/-! The whole effect of a micro-instruction word: each action as an update of the fields that it changes, done where the
word holds the action (rules R157, R159). -/

namespace Sys2Proof.Machine

/-! ### The word that an instruction executes -/

/-- Every bit below 12 is an action's (rule R157). -/
theorem exists_action_of_bit : ∀ i < 12, ∃ a ∈ leadingOrder, a.bitIndex = i := by decide

/-- A well-formed word without an action is `NOTHING` (rule R158). -/
theorem eq_zero_of_leadingAction_none {w : Word} (hwf : microWellFormed w = true) (h : leadingAction w = none) :
    w = 0#16 := by
  obtain ⟨-, -, hhigh⟩ := (microWellFormed_iff w).1 hwf
  apply BitVec.eq_of_getLsbD_eq
  intro i _
  rw [BitVec.getLsbD_zero]
  by_cases hi : i < 12
  · obtain ⟨a, ha, rfl⟩ := exists_action_of_bit i hi
    exact Bool.eq_false_of_not_eq_true (List.find?_eq_none.1 h a ha)
  · have hbit := (BitVec.toNat_lt_iff_getLsbD_eq_false 12 (by decide)).1 hhigh (i - 12)
    rwa [Nat.add_sub_cancel' (not_lt.1 hi)] at hbit

/-- A micro-instruction term executes its word. -/
theorem exec_microInstr (a : MicroAction) (rest : Word) (s : State) :
    exec (microInstr a rest) s = .next (executeMicro (a.bit ||| rest) s) := by
  cases a <;> rfl

/-- What a word decodes to executes the word. -/
theorem exec_of_decodeMicro {w : Word} {i : Instr} (h : decodeMicro w = .ok i) (s : State) :
    exec i s = .next (executeMicro w s) := by
  obtain ⟨hwf, ⟨hnone, rfl⟩ | ⟨a, ha, rfl⟩⟩ := decodeMicro_eq_ok h
  · rw [eq_zero_of_leadingAction_none hwf hnone]
    rfl
  · rw [exec_microInstr, bit_or_others (hasAction_of_leadingAction ha)]

/-! ### The transfer (rules R118, R219, R325-R328) -/

/-- A slot's value recorded again is the same record. -/
theorem valueLine_busLine {o : BusOwner} (ho : o ≠ .none) (line : List BusEntry) (h : Nat) (v : Word) :
    valueLine (busLine line h o v) h v = busLine line h o v := by
  have hother : (line.filter (fun e => e.slot != h)).map (fun e => if e.slot = h then { e with value := v } else e) =
      line.filter (fun e => e.slot != h) := by
    refine (List.map_congr_left fun e he => if_neg ?_).trans (List.map_id _)
    simpa using (List.mem_filter.1 he).2
  simp [valueLine, busLine, ho, hother]

/-- An access to Chip RAM with the value that the Blitter's record holds leaves the record. -/
theorem recordValue_recordBus (v : Word) (s : State) :
    recordValue v (recordBus .blitter v s) = recordBus .blitter v s := by
  simp only [recordValue, recordBus, valueLine_busLine (o := .blitter) (by decide)]

/-- A word fetched in the Blitter's slot is the one recorded. -/
theorem chipFetch_recordBus (p : Ptr) (s : State) :
    chipFetch p (recordBus .blitter (chipRead16 p s) s) = recordBus .blitter (chipRead16 p s) s :=
  recordValue_recordBus _ s

/-- A word stored in the Blitter's slot is the one recorded. -/
theorem chipWrite16_recordBus (p : Ptr) (v : Word) (s : State) :
    chipWrite16 p v (recordBus .blitter v s) =
      { recordBus .blitter v s with mem := { s.mem with chip := s.mem.chip.setWord (chipOffset s.cfg p) v } } :=
  recordValue_recordBus v { s with mem := { s.mem with chip := s.mem.chip.setWord (chipOffset s.cfg p) v } }

/-- `WRITE_D` in the Blitter's slot: nothing is written while D is locked. -/
theorem writeD_recordBus (s : State) :
    writeD (recordBus .blitter (if !s.blitter.lockD then s.blitter.dhold else 0xFFFF#16) s) =
      { recordBus .blitter (if !s.blitter.lockD then s.blitter.dhold else 0xFFFF#16) s with
        mem := if !s.blitter.lockD then
          { s.mem with chip := s.mem.chip.setWord (chipOffset s.cfg s.blitter.bltdpt) s.blitter.dhold } else s.mem
        blitter := if !s.blitter.lockD then advanceD s.cfg s.blitter else s.blitter } := by
  cases hlock : s.blitter.lockD
  · rw [writeD, recordBus_blitter, hlock]
    simp only [Bool.not_false, if_true, chipWrite16_recordBus]
    rfl
  · rw [writeD, recordBus_blitter, hlock]
    rfl

/-- Which transfers a word makes: D, A, B, C. -/
def transfersOf (w : Word) : Bool × Bool × Bool × Bool :=
  (hasAction w .writeD, hasAction w .fetchA, hasAction w .fetchB, hasAction w .fetchC)

/-- A well-formed word makes at most one transfer (rule R158). -/
theorem transfersOf_cases {w : Word} (hwf : microWellFormed w = true) :
    transfersOf w = (false, false, false, false) ∨ transfersOf w = (true, false, false, false) ∨
    transfersOf w = (false, true, false, false) ∨ transfersOf w = (false, false, true, false) ∨
    transfersOf w = (false, false, false, true) := by
  obtain ⟨hone, -, -⟩ := (microWellFormed_iff w).1 hwf
  have hDA : hasAction w .writeD = true → hasAction w .fetchA = false := hone 2 3 (by decide) (by decide)
  have hDB : hasAction w .writeD = true → hasAction w .fetchB = false := hone 2 4 (by decide) (by decide)
  have hDC : hasAction w .writeD = true → hasAction w .fetchC = false := hone 2 5 (by decide) (by decide)
  have hAB : hasAction w .fetchA = true → hasAction w .fetchB = false := hone 3 4 (by decide) (by decide)
  have hAC : hasAction w .fetchA = true → hasAction w .fetchC = false := hone 3 5 (by decide) (by decide)
  have hBC : hasAction w .fetchB = true → hasAction w .fetchC = false := hone 4 5 (by decide) (by decide)
  unfold transfersOf
  by_cases hD : hasAction w .writeD = true
  · simp [hD, hDA hD, hDB hD, hDC hD]
  by_cases hA : hasAction w .fetchA = true
  · simp [hD, hA, hAB hA, hAC hA]
  by_cases hB : hasAction w .fetchB = true
  · simp [hD, hA, hB, hBC hB]
  · cases hC : hasAction w .fetchC <;> simp [hD, hA, hB]

/-- A word makes at most one transfer, so each channel reads what was there before the word, and the word on the bus is
the one transferred. -/
theorem microTransfer_eq {w : Word} (hwf : microWellFormed w = true) (s : State) :
    let b := s.blitter
    let fetchesA := hasAction w .fetchA
    let fetchesB := hasAction w .fetchB
    let fetchesC := hasAction w .fetchC
    let writes := hasAction w .writeD && !b.lockD
    let anew := if fetchesA then chipRead16 b.bltapt s else b.anew
    let bnew := if fetchesB then chipRead16 b.bltbpt s else b.bnew
    let chold := if fetchesC then chipRead16 b.bltcpt s else b.chold
    let busWord := if fetchesA then anew else if fetchesB then bnew else if fetchesC then chold
      else if writes then b.dhold else 0xFFFF#16
    let next := advance s.cfg b.bltcon1
    microTransfer w s = { s with
      mem := if writes then
          { s.mem with chip := s.mem.chip.setWord (chipOffset s.cfg b.bltdpt) b.dhold } else s.mem
      bus := if needsBus w then
          { s.bus with line := busLine s.bus.line s.beam.h.toNat .blitter busWord } else s.bus
      blitter := { b with
        anew := anew, bnew := bnew, chold := chold
        bltapt := if fetchesA then (next b.bltamod b.w b.bltapt b.colA).1 else b.bltapt
        colA := if fetchesA then (next b.bltamod b.w b.bltapt b.colA).2 else b.colA
        bltbpt := if fetchesB then (next b.bltbmod b.w b.bltbpt b.colB).1 else b.bltbpt
        colB := if fetchesB then (next b.bltbmod b.w b.bltbpt b.colB).2 else b.colB
        bltcpt := if fetchesC then (next b.bltcmod b.w b.bltcpt b.colC).1 else b.bltcpt
        colC := if fetchesC then (next b.bltcmod b.w b.bltcpt b.colC).2 else b.colC
        bltdpt := if writes then (next b.bltdmod b.w b.bltdpt b.colD).1 else b.bltdpt
        colD := if writes then (next b.bltdmod b.w b.bltdpt b.colD).2 else b.colD } } := by
  rcases transfersOf_cases hwf with htransfers | htransfers | htransfers | htransfers | htransfers
  all_goals
    simp only [transfersOf, Prod.mk.injEq] at htransfers
    obtain ⟨hD, hA, hB, hC⟩ := htransfers
    simp only [microTransfer, dataTransfers, whenAction, needsBus, microBusValue, hA, hB, hC, hD, Bool.or_true,
      Bool.or_false, Bool.false_and, Bool.true_and, Bool.false_eq_true, if_true, if_false]
  · split <;> rfl
  · rw [writeD_recordBus]
    generalize (!s.blitter.lockD) = unlocked
    cases unlocked <;> rfl
  · rw [fetchA, recordBus_blitter, chipFetch_recordBus]
    rfl
  · rw [fetchB, recordBus_blitter, chipFetch_recordBus]
    rfl
  · rw [fetchC, recordBus_blitter, chipFetch_recordBus]
    rfl

/-! ### The other actions (rules R307-R311, R318, R329-R333) -/

/-- The shift of a control register as a quotient. -/
theorem shiftField_eq (con : Word) : shiftField con = con.toNat / 0x1000 := by
  have hcon : con.toNat < 2 ^ 16 := con.isLt
  rw [shiftField, BitVec.extractLsb'_toNat, Nat.shiftRight_eq_div_pow]
  omega

/-- An action on the Blitter done where the word has it. -/
theorem whenAction_withBlitter (w : Word) (a : MicroAction) (f : Blitter → Blitter) (s : State) :
    whenAction w a (withBlitter f) s = withBlitter (fun b => if hasAction w a then f b else b) s := by
  unfold whenAction
  split <;> rfl

/-- `HOLD_A`, where the word holds it. -/
theorem ite_holdA (c : Bool) (b : Blitter) :
    let am := b.anew &&& channelAMask b.bltafwm b.bltalwm b.x b.w
    (if c then holdA b else b) = { b with
      ahold := if c then barrelShift (desc b.bltcon1) am b.aold (b.bltcon0.toNat / 0x1000) else b.ahold
      aold := if c then am else b.aold } := by
  rw [← shiftField_eq]
  cases c <;> rfl

/-- `HOLD_B`, where the word holds it. -/
theorem ite_holdB (c : Bool) (b : Blitter) :
    (if c then holdB b else b) = { b with
      bhold := if c then barrelShift (desc b.bltcon1) b.bnew b.bold (b.bltcon1.toNat / 0x1000) else b.bhold
      bold := if c then b.bnew else b.bold } := by
  rw [← shiftField_eq]
  cases c <;> rfl

/-- `HOLD_D`, where the word holds it. -/
theorem ite_holdD (c fill : Bool) (b : Blitter) :
    let m := minterm b.ahold b.bhold b.chold (mintermField b.bltcon0)
    let r := if fill then fillWord b.bltcon1 b.fillCarry m else (m, b.fillCarry)
    (if c then holdD fill b else b) = { b with
      lockD := if c then false else b.lockD
      dhold := if c then r.1 else b.dhold
      fillCarry := if c then r.2 else b.fillCarry
      zero := if c && r.1 != 0#16 then false else b.zero } := by
  intro m r
  cases c
  · rfl
  · have hzero : zeroAfter b.zero r.1 = if r.1 != 0#16 then false else b.zero := by
      by_cases h : r.1 = 0#16 <;> simp [zeroAfter, h]
    exact congrArg (fun z => { b with lockD := false, dhold := r.1, fillCarry := r.2, zero := z }) hzero

/-- The counters and `bltpc`: `REPEAT` where the word holds it, else the next word. -/
theorem ite_blitRepeat (c : Bool) (b : Blitter) :
    let rowEnds := c && decide (b.x - 1 = 0)
    let y := if rowEnds then b.y - 1 else b.y
    (if c then blitRepeat b else { b with pc := b.pc + 1 }) = { b with
      x := if c then (if rowEnds then b.w else b.x - 1) else b.x
      y := y
      fillCarry := if rowEnds then fci b.bltcon1 else b.fillCarry
      pc := if c && y != 0 then 0 else b.pc + 1 } := by
  cases c
  · rfl
  · by_cases hrow : b.x - 1 = 0
    · by_cases hlast : b.y - 1 = 0 <;> simp [blitRepeat, hrow, hlast]
    · by_cases hlast : b.y = 0 <;> simp [blitRepeat, hrow, hlast]

/-- The actions that need no bus, as one update of the Blitter. -/
theorem dataHolds_eq (w : Word) (s : State) :
    dataHolds w s =
      withBlitter (fun b => if hasAction w .repeat then blitRepeat b else { b with pc := b.pc + 1 })
        (withBlitter (fun b => if hasAction w .holdD then holdD (hasAction w .fill) b else b)
          (withBlitter (fun b => if hasAction w .holdB then holdB b else b)
            (withBlitter (fun b => if hasAction w .holdA then holdA b else b) s))) := by
  simp only [dataHolds, whenAction_withBlitter]
  split <;> rfl

/-- `BLTDONE`, where the word holds it (rules R318, R523). -/
theorem whenAction_bltDone (w : Word) (s : State) :
    let done := hasAction w .bltdone
    let intreq := if done then s.ctl.intreq ||| 0x0040#16 else s.ctl.intreq
    whenAction w .bltdone bltDone s = { s with
      ctl := { s.ctl with
        intreq := intreq, ipl := if done then interruptLevel intreq s.ctl.intena else s.ctl.ipl }
      blitter := { s.blitter with
        busy := if done then false else s.blitter.busy
        prog := if done then none else s.blitter.prog
        pc := if done then 0 else s.blitter.pc } } := by
  unfold whenAction
  cases hasAction w .bltdone <;> rfl

end Sys2Proof.Machine

namespace Sys2Proof.Encoding

open Sys2Proof.Machine

/-- Settles O47: the word's one transfer, then its other actions one after the other, each an update of the fields that
it changes. -/
theorem microWordEffect : Obligations.MicroWordEffect := by
  intro w i s h
  refine (exec_of_decodeMicro h s).trans (congrArg Host.Outcome.next ?_)
  rw [executeMicro, microActions, whenAction_bltDone, dataHolds_eq, microTransfer_eq (decodeMicro_eq_ok h).1]
  simp only [ite_holdA, ite_holdB, ite_holdD, ite_blitRepeat]
  rfl

end Sys2Proof.Encoding
end

section
/-! The end of a line and of a frame, said once: which parts of the state they can change; and the advance of the beam
(rules R200-R204). -/

namespace Sys2Proof.Machine

variable {s : State}

/-! ### The end of a line (rules R203, R381, R420) -/

/-- The pixels of a line shift the sprites and change Denise. -/
theorem translate_changes (n x : Nat) (s : State) :
    ∃ sprites denise, (translate n x s).1 = { s with sprites := sprites, denise := denise } := by
  induction n generalizing x s with
  | zero => exact ⟨s.sprites, s.denise, rfl⟩
  | succ n ih =>
    obtain ⟨sprites, denise, h⟩ := ih (x + 1) (translatePixel x s).1
    exact ⟨sprites, denise, h⟩

/-- So does the replay of the logged register changes between them. -/
theorem replayFrom_changes (l : List LogEntry) (x : Nat) (s : State) :
    ∃ sprites denise, (replayFrom l x s).1 = { s with sprites := sprites, denise := denise } := by
  induction l generalizing x s with
  | nil => exact translate_changes _ x s
  | cons e l ih =>
    obtain ⟨sprites, denise, h⟩ := translate_changes (entryPixel e - x) x s
    obtain ⟨sprites', denise', h'⟩ := ih (max x (entryPixel e)) (withDenise (applyReplay e)
      (translate (entryPixel e - x) x s).1)
    refine ⟨sprites', denise', h'.trans ?_⟩
    rw [h]
    rfl

/-- A row stored changes the frame buffers. -/
theorem storeRow_changes (v : Nat) (row : List (BitVec 32)) (s : State) :
    ∃ frames, storeRow v row s = { s with frames := frames } := by
  unfold storeRow
  split_ifs <;> exact ⟨_, rfl⟩

/-- The line's row is drawn: the sprites, Denise and the frame buffers change. -/
theorem endOfLine_changes (s : State) :
    ∃ sprites denise frames, endOfLine s = { s with sprites := sprites, denise := denise, frames := frames } := by
  obtain ⟨sprites, denise, hreplay⟩ := replayFrom_changes (mergeLogs s.denise.bplLog s.denise.colLog) 0
    (withDenise (fun d => { d with hamPrev := d.rColor[0] }) s)
  unfold endOfLine
  dsimp only
  rw [hreplay]
  obtain ⟨frames, hrow⟩ := storeRow_changes s.beam.v.toNat _ { s with sprites := sprites, denise := denise }
  exact ⟨sprites, _, frames, congrArg (withDenise fun d => { d with bplLog := [], colLog := [] }) hrow⟩

/-- A cut fetch window's modulos move the bitplane pointers. -/
theorem windowLineEnd_changes (s : State) :
    ∃ pointers, windowLineEnd s = { s with bpl := { s.bpl with bplpt := pointers } } := by
  unfold windowLineEnd
  split <;> exact ⟨_, rfl⟩

/-- Everything a line ends with, before the beam moves. -/
theorem clearLine_endOfLine_changes (s : State) :
    ∃ pointers bits sprites denise frames, clearLine (endOfLine (windowLineEnd s)) = { s with
      bpl := { s.bpl with bplpt := pointers, planeBits := bits }
      sprites := sprites, denise := denise, frames := frames } := by
  obtain ⟨pointers, hwindow⟩ := windowLineEnd_changes s
  obtain ⟨_, _, frames, hend⟩ := endOfLine_changes (windowLineEnd s)
  rw [hend, hwindow]
  exact ⟨pointers, _, _, _, frames, rfl⟩

/-! ### The end of a frame (rules R201, R204, R264) -/

/-- The exchanged buffers are the only change of the exchange. -/
theorem swapFrames_changes (s : State) : ∃ frames, swapFrames s = { s with frames := frames } := by
  unfold swapFrames
  split <;> exact ⟨_, rfl⟩

/-- The frame type and counter of the next frame, the Copper at `COP1LC`, the sprites idle, the buffers exchanged. -/
theorem endOfFrame_changes (s : State) :
    ∃ sprites frames, endOfFrame s = { s with
      beam := { s.beam with
        lof := if lace s.bpl.bplcon0 then !s.beam.lof else true, frame := s.beam.frame + 1#64 }
      copper := copperJump s.copper.cop1lc s.copper, sprites := sprites, frames := frames } := by
  obtain ⟨frames, hswap⟩ := swapFrames_changes s
  unfold endOfFrame
  rw [hswap]
  exact ⟨_, frames, rfl⟩

/-- Within a frame the next line begins with an empty bus record. -/
theorem newLine_of_lt (h : s.beam.v.toNat + 1 < frameLines s) :
    ∃ window bpl sprites denise frames, newLine s = { s with
      beam := { s.beam with h := 0#8, v := s.beam.v + 1#9 }, bus := { s.bus with line := [] }
      window := window, bpl := bpl, sprites := sprites, denise := denise, frames := frames } := by
  obtain ⟨_, _, _, denise, frames, hend⟩ := clearLine_endOfLine_changes s
  unfold newLine
  dsimp only
  rw [if_neg (not_le.2 h), hend]
  exact ⟨_, _, _, denise, frames, rfl⟩

/-- The last line of a frame, or one beyond it, is followed by line 0 of the next frame: VERTB is raised and the Copper
restarts. -/
theorem newLine_of_le (h : frameLines s ≤ s.beam.v.toNat + 1) :
    ∃ window bpl sprites denise frames, newLine s = { s with
      beam := { v := 0#9, h := 0#8, frame := s.beam.frame + 1#64
                lof := if lace s.bpl.bplcon0 then !s.beam.lof else true }
      bus := { s.bus with line := [] }, ctl := (raiseIrq irqVertb s).ctl
      copper := copperJump s.copper.cop1lc s.copper
      window := window, bpl := bpl, sprites := sprites, denise := denise, frames := frames } := by
  obtain ⟨_, _, _, denise, _, hend⟩ := clearLine_endOfLine_changes s
  unfold newLine
  dsimp only
  rw [if_pos h, hend]
  obtain ⟨_, frames, hframe⟩ := endOfFrame_changes _
  rw [hframe]
  exact ⟨_, _, _, denise, frames, rfl⟩

/-! ### The advance of the beam (rules R200, R201) -/

/-- Within a line only the position and the clock move. -/
theorem beamAdvance_of_ne (h : s.beam.h.toNat + 1 ≠ s.cfg.lineSlots) :
    beamAdvance s = { s with beam := { s.beam with h := s.beam.h + 1#8 }, now := s.now + 1#64 } := by
  rw [beamAdvance, if_neg h]

/-- After the last slot of a line the next line begins. -/
theorem beamAdvance_of_eq (h : s.beam.h.toNat + 1 = s.cfg.lineSlots) :
    beamAdvance s = { newLine s with now := (newLine s).now + 1#64 } := by
  rw [beamAdvance, if_pos h]

/-- The line and frame lengths of a legal configuration fit the beam counters (rules R9, R11). -/
theorem video_of_valid {c : Cfg} (h : Cfg.valid c = true) :
    0 < c.lineSlots ∧ c.lineSlots ≤ 256 ∧ 0 < c.frameLinesLong ∧ c.frameLinesLong ≤ 512 ∧
      0 < c.frameLinesShort ∧ c.frameLinesShort ≤ 512 := by
  simp only [Cfg.valid, Bool.and_eq_true, and_assoc] at h
  obtain ⟨-, -, -, -, -, -, -, -, hvideo, -⟩ := h
  unfold validVideo at hvideo
  split at hvideo <;> simp at hvideo <;> omega

/-- So every frame has a line, and its lines fit the line counter. -/
theorem frameLines_of_valid (hvalid : Cfg.valid s.cfg = true) : 0 < frameLines s ∧ frameLines s ≤ 512 := by
  obtain ⟨-, -, hlong, hlong', hshort, hshort'⟩ := video_of_valid hvalid
  unfold frameLines
  split
  · exact ⟨hlong, hlong'⟩
  · exact ⟨hshort, hshort'⟩

/-- The beam is inside its line and its frame (rule R11). -/
def BeamInside (s : State) : Prop := s.beam.h.toNat < s.cfg.lineSlots ∧ s.beam.v.toNat < frameLines s

/-- Within a line a beam inside stays inside. -/
theorem beamInside_of_ne (hvalid : Cfg.valid s.cfg = true) (hin : BeamInside s)
    (h : s.beam.h.toNat + 1 ≠ s.cfg.lineSlots) : BeamInside (beamAdvance s) := by
  obtain ⟨hh, hv⟩ := hin
  obtain ⟨-, hslots, -⟩ := video_of_valid hvalid
  have hnext : (s.beam.h + 1#8).toNat = s.beam.h.toNat + 1 := by
    rw [BitVec.toNat_add, BitVec.toNat_ofNat]
    omega
  rw [beamAdvance_of_ne h]
  refine ⟨?_, hv⟩
  show (s.beam.h + 1#8).toNat < s.cfg.lineSlots
  omega

/-- The next line is inside its frame, whichever line came before. -/
theorem beamInside_of_eq (hvalid : Cfg.valid s.cfg = true) (h : s.beam.h.toNat + 1 = s.cfg.lineSlots) :
    BeamInside (beamAdvance s) := by
  have hslots : 0 < s.cfg.lineSlots := by omega
  rw [beamAdvance_of_eq h]
  by_cases hlast : frameLines s ≤ s.beam.v.toNat + 1
  · obtain ⟨_, _, _, _, _, hline⟩ := newLine_of_le hlast
    rw [hline]
    exact ⟨hslots, (frameLines_of_valid (by exact hvalid)).1⟩
  · obtain ⟨_, _, _, _, _, hline⟩ := newLine_of_lt (not_le.1 hlast)
    have hlines := (frameLines_of_valid hvalid).2
    have hnext : (s.beam.v + 1#9).toNat = s.beam.v.toNat + 1 := by
      rw [BitVec.toNat_add, BitVec.toNat_ofNat]
      omega
    rw [hline]
    refine ⟨hslots, ?_⟩
    show (s.beam.v + 1#9).toNat < frameLines s
    omega

end Sys2Proof.Machine

namespace Sys2Proof.Agnus

open Sys2Proof.Machine

/-- Settles O57: within a line, at the end of a line, at the end of a frame; and in each the beam stays inside. -/
theorem beamAdvances : Obligations.BeamAdvances := by
  intro s
  refine ⟨beamAdvance_of_ne, fun h hwithin => ?_, fun h hlast => ?_, fun hvalid hh hv => ?_⟩
  · obtain ⟨_, _, _, _, _, hline⟩ := newLine_of_lt hwithin
    rw [beamAdvance_of_eq h, hline]
    exact ⟨rfl, rfl, rfl, rfl⟩
  · obtain ⟨_, _, _, _, _, hline⟩ := newLine_of_le hlast
    rw [beamAdvance_of_eq h, hline]
    exact ⟨rfl, rfl, rfl⟩
  · by_cases hend : s.beam.h.toNat + 1 = s.cfg.lineSlots
    · exact beamInside_of_eq hvalid hend
    · exact beamInside_of_ne hvalid ⟨hh, hv.resolve_right hend⟩ hend

end Sys2Proof.Agnus
end

section
/-! What a step can do to the bus record, said once for every operation of a slot and for the inputs: record a slot's
owner, replace a value, clear the line; and that no slot of the line has two owners. -/

namespace Sys2Proof.Machine

/-! ### BusRecords of slots -/

/-- One change of the record of the line (rules R33, R203, R215, R219). -/
inductive BusLineStep (line : List BusEntry) : List BusEntry → Prop
  | owner (h : Nat) (o : BusOwner) (v : Word) : BusLineStep line (busLine line h o v)
  | value (h : Nat) (v : Word) : BusLineStep line (valueLine line h v)
  | clear : BusLineStep line []

/-- From `s` to `t` the bus record changes by such changes alone. -/
def BusRecords (s t : State) : Prop := Relation.ReflTransGen BusLineStep s.bus.line t.bus.line

variable {s t u : State}

/-- An operation that leaves the bus record alone. -/
theorem BusRecords.of_line (h : t.bus.line = s.bus.line) : BusRecords s t := by
  unfold BusRecords
  rw [h]

/-- An operation that ends with an empty record. -/
theorem BusRecords.of_clear (h : t.bus.line = []) : BusRecords s t := by
  unfold BusRecords
  rw [h]
  exact .single .clear

/-- Nothing changed. -/
theorem BusRecords.refl (s : State) : BusRecords s s := .of_line rfl

/-- One after the other, the later one first: it names what the earlier one leaves. -/
theorem BusRecords.after (k : BusRecords t u) (h : BusRecords s t) : BusRecords s u := Relation.ReflTransGen.trans h k

/-- BusRecords, and then an operation that leaves the record alone. -/
theorem BusRecords.trans_line (h : BusRecords s t) (hu : u.bus.line = t.bus.line) : BusRecords s u :=
  .after (.of_line hu) h

/-- Either of two. -/
theorem BusRecords.ite {c : Prop} [Decidable c] (h : BusRecords s t) (k : BusRecords s u) :
    BusRecords s (if c then t else u) := by
  split
  · exact h
  · exact k

/-- The same for what a meaning answers: where it is a next state, the bus record has changed by records alone. -/
def BusRecordsResult (s : State) (r : Result) : Prop := ∀ t, r = .next t → BusRecords s t

/-- A next state. -/
theorem BusRecordsResult.next (h : BusRecords s t) : BusRecordsResult s (.next t) := by
  rintro _ ⟨⟩
  exact h

/-- Sequencing. -/
theorem BusRecordsResult.andThen {r : Result} {f : State → Result} (h : BusRecordsResult s r)
    (k : ∀ u, BusRecordsResult u (f u)) : BusRecordsResult s (andThen r f) := by
  intro t ht
  obtain ⟨u, hu, hf⟩ := (andThen_eq_next _ _ _).1 ht
  exact .after (k u t hf) (h u hu)

/-- A result that is reached over records. -/
theorem BusRecordsResult.after {r : Result} (k : BusRecordsResult t r) (h : BusRecords s t) : BusRecordsResult s r :=
  fun u hu => .after (k u hu) h

/-! ### The operations that record, and the Blitter.  From here on `busRecords_f` says that the operation `f` changes
the bus record by records alone. -/

theorem busRecords_recordBus (o : BusOwner) (v : Word) (s : State) : BusRecords s (recordBus o v s) :=
  .single (.owner _ _ _)

theorem busRecords_chipFetch (p : Ptr) (s : State) : BusRecords s (chipFetch p s) := .single (.value _ _)

theorem busRecords_chipWrite16 (p : Ptr) (v : Word) (s : State) : BusRecords s (chipWrite16 p v s) :=
  .single (.value _ _)

theorem busRecords_whenAction {f : State → State} (hf : ∀ s, BusRecords s (f s)) (w : Word) (a : MicroAction)
    (s : State) : BusRecords s (whenAction w a f s) := .ite (hf s) (.refl s)

/-- Each transfer of a word replaces the slot's value. -/
theorem busRecords_dataTransfers (w : Word) (s : State) : BusRecords s (dataTransfers w s) := by
  have hwrite (u : State) : BusRecords u (writeD u) := .ite (.refl u) ((busRecords_chipWrite16 _ _ u).trans_line rfl)
  have hA (u : State) : BusRecords u (fetchA u) := (busRecords_chipFetch _ u).trans_line rfl
  have hB (u : State) : BusRecords u (fetchB u) := (busRecords_chipFetch _ u).trans_line rfl
  have hC (u : State) : BusRecords u (fetchC u) := (busRecords_chipFetch _ u).trans_line rfl
  exact .after (busRecords_whenAction hC w .fetchC _) <| .after (busRecords_whenAction hB w .fetchB _) <|
    .after (busRecords_whenAction hA w .fetchA _) (busRecords_whenAction hwrite w .writeD s)

theorem busRecords_dataActions (w : Word) (s : State) : BusRecords s (dataActions w s) := by
  obtain ⟨f, h⟩ := dataHolds_changes w (dataTransfers w s)
  unfold dataActions
  rw [h]
  exact (busRecords_dataTransfers w s).trans_line rfl

theorem busRecords_microTransfer (w : Word) (s : State) : BusRecords s (microTransfer w s) :=
  .after (busRecords_dataTransfers w _) (.ite (busRecords_recordBus _ _ s) (.refl s))

theorem busRecords_microActions (w : Word) (s : State) : BusRecords s (microActions w s) := by
  obtain ⟨b, h⟩ := microActions_changes w s
  rw [h]
  exact .of_line rfl

theorem busRecords_executeMicro (w : Word) (s : State) : BusRecords s (executeMicro w s) :=
  .after (busRecords_microActions w _) (busRecords_microTransfer w s)

theorem busRecords_runData (words : List Word) (n : Nat) (s : State) : BusRecords s (runData words n s) := by
  induction n generalizing s with
  | zero => exact .refl s
  | succ n ih =>
    unfold runData
    split
    · exact .refl s
    · exact .ite (busRecords_dataActions _ s) (.after (ih _) (busRecords_dataActions _ s))

theorem busRecords_fastBlit (s : State) : BusRecords s (fastBlit s) :=
  .after (.of_line rfl) <| .after (busRecords_runData _ _ _) (.of_line rfl)

theorem busRecords_linePixel (s : State) : BusRecords s (linePixel s) :=
  .after (.of_line rfl) <| .after (.ite (busRecords_chipWrite16 _ _ _) (.refl _))
    (.ite (busRecords_chipFetch _ s) (.refl s))

theorem busRecords_linePixels (n : Nat) (s : State) : BusRecords s (linePixels n s) := by
  induction n generalizing s with
  | zero => exact .refl s
  | succ n ih => exact .after (ih _) (busRecords_linePixel s)

theorem busRecords_lineBlit (s : State) : BusRecords s (lineBlit s) :=
  .after (.of_line rfl) <| .after (busRecords_linePixels _ _) (.of_line rfl)

theorem busRecords_launch (v : Word) (s : State) : BusRecords s (launch v s) := by
  refine .after (.ite (busRecords_lineBlit _) ?_) (.of_line rfl)
  split
  · exact .of_line rfl
  · exact busRecords_fastBlit _

/-! ### The custom registers and the instructions -/

theorem busRecords_applySystem (off : Nat) (v : Word) (s : State) : BusRecords s (applySystem off v s) := by
  unfold applySystem
  split_ifs <;> exact .of_line rfl

theorem busRecords_applyControl (off : Nat) (v : Word) (s : State) : BusRecords s (applyControl off v s) := by
  unfold applyControl
  iterate 14 refine .ite (.of_line rfl) ?_
  exact .refl s

theorem busRecords_applyBitplane (off : Nat) (v : Word) (s : State) : BusRecords s (applyBitplane off v s) := by
  unfold applyBitplane
  split_ifs <;> exact .of_line rfl

theorem busRecords_applySprite (off : Nat) (v : Word) (s : State) : BusRecords s (applySprite off v s) := by
  have hattach (n : Fin 8) (u : State) : BusRecords u (writeAttach n v u) := .ite (.of_line rfl) (.refl u)
  unfold applySprite
  split_ifs
  · exact .of_line rfl
  · exact .after (.of_line rfl) <| .after (hattach _ _) (.of_line rfl)
  · exact .of_line rfl
  · exact .of_line rfl

/-- Of the register writes only the launch of a blit, whose transfers may come at once, changes the bus record. -/
theorem busRecords_applyReg (off : Nat) (v : Word) (s : State) : BusRecords s (applyReg off v s) := by
  unfold applyReg
  split_ifs
  · exact busRecords_applySystem off v s
  · exact busRecords_launch v s
  · exact .of_line rfl
  · exact busRecords_applyControl off v s
  · exact busRecords_applyBitplane off v s
  · exact .of_line rfl
  · exact busRecords_applySprite off v s
  · exact .of_line rfl

theorem busRecords_registerWrite (off : Nat) (v : Word) (s : State) : BusRecords s (registerWrite off v s) := by
  obtain h | h | h | h | h := registerWrite_cases off v s <;> rw [h]
  · exact .refl s
  · exact .of_line rfl
  · exact .of_line rfl
  · exact .of_line rfl
  · exact busRecords_applyReg off v s

theorem busRecords_registerRead (off : Nat) (s : State) : BusRecords s (registerRead off s) := by
  have heffect : BusRecords s (readEffect off s) := .ite (.of_line rfl) (.refl s)
  have hback : BusRecords s (setReadData ((busQuirk s).setWidth 32) (registerWrite off (busQuirk s) s)) :=
    (busRecords_registerWrite off _ s).trans_line rfl
  unfold registerRead
  split
  · exact heffect.trans_line rfl
  · exact .of_line rfl
  · exact .of_line rfl
  all_goals exact hback

theorem busRecords_accessRegister (off : Nat) (op : RegOp) (s : State) : BusRecords s (accessRegister off op s) := by
  cases op with
  | read => exact busRecords_registerRead off s
  | write v => exact busRecords_registerWrite off v s

theorem busRecords_applyWrites (l : List PendingWrite) (s : State) : BusRecords s (applyWrites l s) := by
  induction l generalizing s with
  | nil => exact .refl s
  | cons p l ih => exact .after (ih _) (busRecords_applyReg _ _ s)

theorem busRecords_applyDue (s : State) : BusRecords s (applyDue s) := by
  unfold applyDue
  dsimp only
  split <;> exact .after (.of_line rfl) <| .after (busRecords_applyWrites _ _) (.of_line rfl)

theorem busRecords_execCopperMove (ra : BitVec 8) (data : Word) (s : State) :
    BusRecordsResult s (execCopperMove ra data s) := by
  have hwrite := busRecords_registerWrite (moveDest ra) data s
  unfold execCopperMove
  split
  · exact .next (.of_line rfl)
  · exact .next (.ite (hwrite.trans_line rfl) hwrite)

/-- Every instruction changes the bus record by records alone. -/
theorem busRecords_exec (i : Instr) (s : State) : BusRecordsResult s (exec i s) := by
  obtain ⟨ra, data, h⟩ | ⟨_, _, _, _, _, h⟩ | ⟨_, _, _, _, _, h⟩ | ⟨w, h⟩ | ⟨index, h⟩ | h | h | ⟨off, op, h⟩ :=
    exec_cases i s <;> rw [h]
  · exact busRecords_execCopperMove ra data s
  · exact .next (.of_line rfl)
  · exact .next (.of_line rfl)
  · exact .next (busRecords_executeMicro w s)
  · exact .next (.of_line rfl)
  · exact .next (.of_line rfl)
  · exact .next (busRecords_fastBlit s)
  · exact .next (busRecords_accessRegister off op s)

/-! ### The CPU port -/

theorem busRecords_storeByte (r : Region) (a : Addr) (v : Byte) (s : State) : BusRecords s (storeByte r a v s) := by
  cases r
  case wom => exact .ite (.refl s) (.of_line rfl)
  all_goals exact .of_line rfl

theorem busRecords_read16 (a : Addr) (s : State) : BusRecordsResult s (read16 a s) := by
  unfold read16
  split
  · exact busRecords_exec _ s
  all_goals exact .next (.of_line rfl)

theorem busRecords_read8 (a : Addr) (s : State) : BusRecordsResult s (read8 a s) := by
  unfold read8
  split
  · exact (busRecords_exec _ s).andThen fun _ => .next (.of_line rfl)
  all_goals exact .next (.of_line rfl)

theorem busRecords_write16 (a : Addr) (v : Word) (s : State) : BusRecordsResult s (write16 a v s) := by
  unfold write16
  split
  · exact busRecords_exec _ s
  iterate 4 exact .next (.of_line rfl)
  all_goals exact .next (.after (busRecords_storeByte _ _ _ _) (busRecords_storeByte _ _ _ s))

theorem busRecords_write8 (a : Addr) (v : Byte) (s : State) : BusRecordsResult s (write8 a v s) := by
  unfold write8
  split
  · exact busRecords_exec _ s
  iterate 4 exact .next (.of_line rfl)
  all_goals exact .next (busRecords_storeByte _ _ _ s)

theorem busRecords_accessTransfer (op : CpuOp) (a : Addr) (s : State) : BusRecordsResult s (accessTransfer op a s) := by
  have hflag (width : Nat) (write : Bool) : BusRecords s (flagOdd a width write s) := .ite (.of_line rfl) (.refl s)
  cases op with
  | read8 => exact busRecords_read8 a s
  | read16 => exact (busRecords_read16 _ _).after (hflag 2 false)
  | read32 => exact (busRecords_read16 _ _).after (hflag 4 false)
  | write8 v => exact busRecords_write8 a v s
  | write16 v => exact (busRecords_write16 _ _ _).after (hflag 2 true)
  | write32 v => exact (busRecords_write16 _ _ _).after (hflag 4 true)
  | readLow hi => exact (busRecords_read16 _ s).andThen fun _ => .next (.of_line rfl)

theorem busRecords_finishAccess (acc : CpuAccess) (rest : List CpuAccess) (cost : Nat) (later : List CpuInstr)
    (s : State) : BusRecords s (finishAccess acc rest cost later s) := by
  obtain ⟨queue, clock, h⟩ := continueInstr_changes (secondHalf acc.op (acc.addr.setWidth 24) s ++ rest) cost later
    { s with bus := { s.bus with reqCPU := false, cpuClock := s.now + 2#64 } }
  unfold finishAccess
  rw [h]
  exact .of_line rfl

theorem busRecords_issueAccess (acc : CpuAccess) (rest : List CpuAccess) (cost : Nat) (later : List CpuInstr)
    (s : State) : BusRecordsResult s (issueAccess acc rest cost later s) := by
  unfold issueAccess
  split_ifs
  · exact .next (.refl s)
  · exact .next (.of_line rfl)
  · exact (busRecords_accessTransfer _ _ s).andThen fun u => .next (busRecords_finishAccess acc rest cost later u)

theorem busRecords_cpuIssue (s : State) : BusRecordsResult s (cpuIssue s) := by
  have hnext (u : State) : BusRecordsResult u (issueNext u) := by
    unfold issueNext
    split
    · exact busRecords_issueAccess _ _ _ _ u
    · exact .next (.refl u)
    · exact .next (.refl u)
  unfold cpuIssue
  split
  · exact .next (.refl s)
  · obtain ⟨queue, clock, hidle⟩ := runIdle_changes s.cpu.queue s
    rw [hidle]
    exact (hnext _).after (.of_line rfl)

theorem busRecords_cpuTransfer (s : State) : BusRecordsResult s (cpuTransfer s) := by
  unfold cpuTransfer
  split
  · exact (busRecords_accessTransfer _ _ s).andThen fun u =>
      .next (.after (busRecords_finishAccess _ _ _ _ _) (busRecords_recordBus _ _ u))
  · exact .next (.of_line rfl)
  · exact .next (.of_line rfl)

/-! ### Agnus and Denise -/

theorem busRecords_windowTick (s : State) : BusRecords s (windowTick s) := .ite (.of_line rfl) (.of_line rfl)

theorem busRecords_arbitrate (s : State) : BusRecords s (arbitrate s) := by
  unfold arbitrate
  dsimp only
  split_ifs <;> exact .of_line rfl

theorem busRecords_diskTransfer (s : State) : BusRecords s (diskTransfer s) :=
  .ite (.after (busRecords_recordBus _ _ _) (busRecords_chipWrite16 _ _ s))
    (.after (busRecords_recordBus _ _ _) (.of_line rfl))

theorem busRecords_spriteTransfer (n : Fin 8) (s : State) : BusRecords s (spriteTransfer n s) :=
  .after (busRecords_registerWrite _ _ _) <| .after (busRecords_recordBus _ _ _) (.of_line rfl)

theorem busRecords_bitplaneTransfer (p : Fin 6) (s : State) : BusRecords s (bitplaneTransfer p s) :=
  .after (busRecords_registerWrite _ _ _) <| .after (busRecords_recordBus _ _ _) (.of_line rfl)

/-- The beam clears the record where it begins a line. -/
theorem busRecords_beamAdvance (s : State) : BusRecords s (beamAdvance s) := by
  by_cases hend : s.beam.h.toNat + 1 = s.cfg.lineSlots
  · refine .of_clear ?_
    rw [beamAdvance_of_eq hend]
    rcases lt_or_ge (s.beam.v.toNat + 1) (frameLines s) with hline | hlast
    · obtain ⟨_, _, _, _, _, h⟩ := newLine_of_lt hline
      rw [h]
    · obtain ⟨_, _, _, _, _, h⟩ := newLine_of_le hlast
      rw [h]
  · rw [beamAdvance_of_ne hend]
    exact .of_line rfl

theorem busRecords_diwHorizontal (s : State) : BusRecords s (diwHorizontal s) := by
  unfold diwHorizontal
  dsimp only
  split_ifs <;> exact .of_line rfl

theorem busRecords_finishSlot (s : State) : BusRecords s (finishSlot s) :=
  .after (busRecords_beamAdvance _) <| .after (busRecords_diwHorizontal _) (.ite (.of_line rfl) (.refl s))

/-! ### The slot -/

theorem busRecords_withMicro {f : Word → Instr → Result} (s : State) (hf : ∀ w i, BusRecordsResult s (f w i)) :
    BusRecordsResult s (withMicro f s) := by
  unfold withMicro
  split
  · exact .next (.refl s)
  · split
    · exact hf _ _
    · rintro _ ⟨⟩

theorem busRecords_copperFetch (s : State) : BusRecords s (copperFetch s) := by
  unfold copperFetch
  dsimp only
  split <;> exact (busRecords_recordBus .copper _ s).trans_line rfl

theorem busRecords_copperStep (o : BusOwner) (s : State) : BusRecordsResult s (copperStep o s) := by
  have hfetch : BusRecordsResult s (.next (if o = .copper then copperFetch s else s)) :=
    .next (.ite (busRecords_copperFetch s) (.refl s))
  unfold copperStep
  split
  · exact hfetch
  · exact hfetch
  · exact busRecords_exec _ s
  · exact .next (.ite (.of_line rfl) (.refl s))
  · exact .next (.of_line rfl)
  · exact .next (.refl s)

theorem busRecords_blitterStep (o : BusOwner) (s : State) : BusRecordsResult s (blitterStep o s) := by
  refine busRecords_withMicro s fun w i => ?_
  split
  · exact .next (busRecords_microActions w s)
  · exact busRecords_exec i s

theorem busRecords_bitplaneStep (o : BusOwner) (s : State) : BusRecords s (bitplaneStep o s) := by
  unfold bitplaneStep
  split
  · exact .ite (busRecords_bitplaneTransfer _ s) (.refl s)
  · exact .refl s

theorem busRecords_handleEvent (o : BusOwner) (i : Fin 13) (s : State) : BusRecordsResult s (handleEvent o i s) := by
  have hcancel : BusRecords s (cancel i s) := .of_line rfl
  obtain ⟨-, h⟩ | ⟨-, h⟩ | ⟨-, h⟩ | ⟨-, h⟩ | ⟨-, h⟩ := handleEvent_cases o i s <;> rw [h]
  · exact .next (busRecords_applyDue s)
  · exact (busRecords_copperStep o _).after hcancel
  · exact (busRecords_blitterStep o _).after hcancel
  · exact .next (.after (busRecords_bitplaneStep o _) hcancel)
  · exact .next (.of_line rfl)

theorem busRecords_serveEvent (o : BusOwner) (i : Fin 13) (s : State) : BusRecordsResult s (serveEvent o i s) := by
  unfold serveEvent
  split
  · exact busRecords_handleEvent o i s
  · exact .next (.refl s)

theorem busRecords_serveEvents (o : BusOwner) (l : List (Fin 13)) (s : State) :
    BusRecordsResult s (serveEvents o l s) := fun t h =>
  serveEvents_keeps (P := BusRecords s) o (fun i u v hu hv => .after (busRecords_handleEvent o i u v hv) hu) l s t
    (.refl s) h

/-- Each owner's transfer records the slot. -/
theorem busRecords_ownerTransfer (o : BusOwner) (s : State) : BusRecordsResult s (ownerTransfer o s) := by
  unfold ownerTransfer
  cases o
  case none => exact .next (.refl s)
  case refresh => exact .next (busRecords_recordBus _ _ s)
  case disk => exact .next (busRecords_diskTransfer s)
  case audio =>
    dsimp only
    split
    · exact .next (.after (busRecords_recordBus _ _ _) (.of_line rfl))
    · exact .next (.refl s)
  case sprite =>
    dsimp only
    split
    · exact .next (busRecords_spriteTransfer _ s)
    · exact .next (.refl s)
  case bitplane => exact busRecords_serveEvent _ _ s
  case copper => exact busRecords_serveEvent _ _ s
  case blitter => exact busRecords_withMicro s fun w _ => .next (busRecords_microTransfer w s)
  case cpu => exact busRecords_cpuTransfer s

theorem busRecords_busSlot (s : State) : BusRecordsResult s (busSlot s) :=
  ((busRecords_ownerTransfer _ _).andThen fun u => busRecords_serveEvents _ lateSlots u).after (busRecords_arbitrate s)
    |>.andThen fun u => .next (busRecords_finishSlot u)

theorem busRecords_slot (s : State) : BusRecordsResult s (slot s) :=
  (busRecords_serveEvents _ _ s).andThen fun t => (busRecords_cpuIssue t).andThen fun u =>
    (busRecords_busSlot _).after (busRecords_windowTick u)

/-! ### The inputs and the step -/

theorem busRecords_whenPowered {f : State → State} (hf : BusRecords s (f s)) : BusRecords s (whenPowered f s) :=
  .ite hf (.refl s)

theorem busRecords_takeInstructions (l : List CpuInstr) (s : State) : BusRecords s (takeInstructions l s) := by
  unfold takeInstructions
  dsimp only
  split <;> exact .of_line rfl

/-- Reset and the power switch clear the record; no other input changes it. -/
theorem busRecords_applyInput (i : Input) (s : State) : BusRecordsResult s (applyInput i s) := by
  cases i
  case overlay level => exact .next (busRecords_whenPowered (.of_line rfl))
  case womLock => exact .next (busRecords_whenPowered (.of_line rfl))
  case irq source => exact .next (busRecords_whenPowered (.of_line rfl))
  case disk port => exact .next (.of_line rfl)
  case audio n port => exact .next (.of_line rfl)
  case cpu l => exact .next (busRecords_whenPowered (busRecords_takeInstructions l s))
  case schedule i trigger id => exact .next (busRecords_whenPowered (.ite (.of_line rfl) (.refl s)))
  case configure c => exact .next (.ite (.of_line rfl) (.of_line rfl))
  case powerOn memory =>
    unfold applyInput powerOn
    dsimp only
    split_ifs
    · exact .next (.refl s)
    · exact .next (.of_line rfl)
    · rintro _ ⟨⟩
    · exact .next (.of_clear rfl)
  case reset => exact .next (.ite (.of_clear rfl) (.refl s))
  case powerOff => exact .next (.ite (.of_clear rfl) (.refl s))

theorem busRecords_takeInputs (l : List TimedInput) (s : State) : BusRecordsResult s (takeInputs l s) := by
  induction l generalizing s with
  | nil => exact .next (.of_line rfl)
  | cons i l ih =>
    unfold takeInputs
    split
    · exact (busRecords_applyInput _ s).andThen ih
    · exact .next (.of_line rfl)

/-- A step changes the bus record by records alone. -/
theorem busRecords_step (s : State) : BusRecordsResult s (step s) := by
  refine (busRecords_takeInputs _ s).andThen fun u => ?_
  split
  · exact busRecords_slot u
  · exact .next (.refl u)

/-! ### At most one owner per slot (rules R215, R216) -/

/-- In the record of a line no slot has two owners, and every recorded owner is one. -/
def ExclusiveLine (line : List BusEntry) : Prop :=
  (line.map BusEntry.slot).Nodup ∧ ∀ e ∈ line, e.owner ≠ .none

/-- A slot's record replaces the one it had. -/
theorem exclusiveLine_busLine {line : List BusEntry} (hline : ExclusiveLine line) (h : Nat) (o : BusOwner) (v : Word) :
    ExclusiveLine (busLine line h o v) := by
  obtain ⟨hnodup, howned⟩ := hline
  have hrest : ExclusiveLine (line.filter fun e => e.slot != h) :=
    ⟨hnodup.sublist (List.filter_sublist.map _), fun e he => howned e (List.mem_of_mem_filter he)⟩
  unfold busLine
  dsimp only
  split
  case isTrue => exact hrest
  case isFalse ho =>
    obtain ⟨hslots, howners⟩ := hrest
    constructor
    · rw [List.map_append, List.nodup_append]
      refine ⟨hslots, List.nodup_singleton _, fun slot hslot => ?_⟩
      obtain ⟨e, he, rfl⟩ := List.mem_map.1 hslot
      simpa using List.of_mem_filter he
    · simpa [or_imp, forall_and, ho] using howners

/-- A value replaced leaves slots and owners. -/
theorem exclusiveLine_valueLine {line : List BusEntry} (hline : ExclusiveLine line) (h : Nat) (v : Word) :
    ExclusiveLine (valueLine line h v) := by
  obtain ⟨hnodup, howned⟩ := hline
  constructor
  · have hslots : (valueLine line h v).map BusEntry.slot = line.map BusEntry.slot := by
      rw [valueLine, List.map_map]
      refine List.map_congr_left fun e _ => ?_
      rw [Function.comp_apply]
      split <;> rfl
    rwa [hslots]
  · intro e he
    obtain ⟨e', he', rfl⟩ := List.mem_map.1 he
    split <;> exact howned e' he'

/-- Every change of the record keeps it exclusive. -/
theorem exclusiveLine_of_steps {line line' : List BusEntry} (h : Relation.ReflTransGen BusLineStep line line')
    (hline : ExclusiveLine line) : ExclusiveLine line' := by
  induction h with
  | refl => exact hline
  | tail _ hstep ih =>
    cases hstep with
    | owner h o v => exact exclusiveLine_busLine ih h o v
    | value h v => exact exclusiveLine_valueLine ih h v
    | clear => exact ⟨List.nodup_nil, by simp⟩

end Sys2Proof.Machine

namespace Sys2Proof.Agnus

open Sys2Proof.Machine

/-- Settles O13: a step only records slots, replaces values and clears the line. -/
theorem stepKeepsBusExclusive : Obligations.StepKeepsBusExclusive :=
  fun s t hs h => exclusiveLine_of_steps (busRecords_step s t h) hs

end Sys2Proof.Agnus
end

section
/-! The arbiter: each request as its rule gives it, and the owner as the first of the requests in the order of rule
R211. -/

namespace Sys2Proof.Machine

variable {s : State}

/-! ### The requests (rules R212, R213, R221, R265, R322): `f_iff` says when `f` holds. -/

/-- The lowest bit of a beam position is its parity. -/
theorem getLsbD_zero_iff (h : BitVec 8) : h.getLsbD 0 = true ↔ h.toNat % 2 = 1 := by
  simp [BitVec.getLsbD, Nat.testBit_zero]

theorem reqRefresh_iff : reqRefresh s = true ↔ s.beam.h.toNat ∈ s.cfg.slotMap.refresh := by
  simp [reqRefresh]

theorem reqDisk_iff :
    reqDisk s = true ↔ s.beam.h.toNat ∈ s.cfg.slotMap.disk ∧ dmaOn 4 s = true ∧ s.ext.disk.wants = true := by
  simp [reqDisk, and_assoc]

theorem audioRequest_isSome_iff :
    (audioRequest s).isSome = true ↔ ∃ n : Fin 4, s.beam.h.toNat = s.cfg.slotMap.audio[n] ∧ dmaOn n.val s = true ∧
      s.ext.audio[n].wants = true := by
  simp only [audioRequest, List.find?_isSome, List.mem_finRange, true_and, Bool.and_eq_true, beq_iff_eq, and_assoc,
    eq_comm (a := s.beam.h.toNat)]

theorem spriteRequest_isSome_iff :
    (spriteRequest s).isSome = true ↔ dmaOn 5 s = true ∧ ∃ n : Fin 8,
      (s.beam.h.toNat = s.cfg.slotMap.sprite[n].1 ∨ s.beam.h.toNat = s.cfg.slotMap.sprite[n].2) ∧
      (s.sprites[n].dma = .fetchCtl ∨ s.sprites[n].dma = .fetchData) := by
  rw [← exists_and_left]
  simp only [spriteRequest, sprNeedsFetch, List.find?_isSome, List.mem_finRange, true_and, Bool.and_eq_true,
    Bool.or_eq_true, beq_iff_eq, and_assoc, and_left_comm (a := dmaOn 5 s = true), eq_comm (a := s.beam.h.toNat)]

theorem reqBitplane_iff : reqBitplane s = true ↔ dmaOn 8 s = true ∧ bplFetchPlane s ≠ none := by
  simp [reqBitplane, Option.isSome_iff_ne_none]

theorem reqCopper_iff :
    reqCopper s = true ↔ dmaOn 7 s = true ∧ (s.beam.h.toNat % 2 = 1 ↔ s.cfg.copperParity = .odd) ∧
      (s.copper.st = .fetch1 ∨ s.copper.st = .fetch2) := by
  have hparity : (s.beam.h.getLsbD 0 == (s.cfg.copperParity == .odd)) = true ↔
      (s.beam.h.toNat % 2 = 1 ↔ s.cfg.copperParity = .odd) := by
    rw [beq_iff_eq, Bool.eq_iff_iff, getLsbD_zero_iff, beq_iff_eq]
  simp only [reqCopper, copperSlot, copperFetching, Bool.and_eq_true, Bool.or_eq_true, beq_iff_eq, hparity, and_assoc]

theorem blitterSlot_iff :
    blitterSlot s = true ↔ dmaOn 6 s = true ∧ s.blitter.busy = true ∧
      (s.cfg.blitterSlots = .any ∨ s.beam.h.toNat % 2 = 0) := by
  have heven : s.beam.h.getLsbD 0 = false ↔ s.beam.h.toNat % 2 = 0 := by
    rw [← Bool.not_eq_true, getLsbD_zero_iff, Nat.mod_two_not_eq_one]
  simp only [blitterSlot, Bool.and_eq_true, Bool.or_eq_true, beq_iff_eq, Bool.not_eq_true', heven, and_assoc,
    and_left_comm]

/-- The Blitter does not give way: `BLTPRI`, or a CPU that has not waited for 3 slots. -/
theorem nastyInhibit_eq_false_iff :
    nastyInhibit s = false ↔ s.ctl.dmacon.getLsbD 10 = true ∨ s.bus.cpuWaitSlots < 3 := by
  rw [nastyInhibit, Bool.and_eq_false_iff, Bool.not_eq_false', decide_eq_false_iff_not, not_le]

/-- The word at `bltpc`. -/
theorem blitterInst_eq_some_iff {b : Blitter} {w : Word} :
    blitterInst b = some w ↔ ∃ p, b.prog = some p ∧ p[b.pc]? = some w := by
  simp [blitterInst, Option.bind_eq_some_iff]

theorem reqBlitter_iff_inst :
    reqBlitter s = true ↔ ∃ w, blitterInst s.blitter = some w ∧ blitterSlot s = true ∧ needsBus w = true ∧
      nastyInhibit s = false := by
  unfold reqBlitter
  split
  case h_1 hnone => simp [hnone]
  case h_2 w hw => simp [hw, and_assoc]

theorem reqBlitter_iff :
    reqBlitter s = true ↔ dmaOn 6 s = true ∧ s.blitter.busy = true ∧
      (s.cfg.blitterSlots = .any ∨ s.beam.h.toNat % 2 = 0) ∧
      (∃ p w, s.blitter.prog = some p ∧ p[s.blitter.pc]? = some w ∧ needsBus w = true) ∧
      (s.ctl.dmacon.getLsbD 10 = true ∨ s.bus.cpuWaitSlots < 3) := by
  rw [reqBlitter_iff_inst, nastyInhibit_eq_false_iff, blitterSlot_iff]
  simp only [blitterInst_eq_some_iff]
  constructor
  · rintro ⟨w, ⟨p, hp, hw⟩, ⟨hdma, hbusy, hslot⟩, hbus, hnasty⟩
    exact ⟨hdma, hbusy, hslot, ⟨p, w, hp, hw, hbus⟩, hnasty⟩
  · rintro ⟨hdma, hbusy, hslot, ⟨p, w, hp, hw, hbus⟩, hnasty⟩
    exact ⟨w, ⟨p, hp, hw⟩, ⟨hdma, hbusy, hslot⟩, hbus, hnasty⟩

/-! ### The first request (rules R211, R215, R218) -/

/-- The bus users in the order of rule R211. -/
def busUsers : List BusOwner := [.refresh, .disk, .audio, .sprite, .bitplane, .copper, .blitter, .cpu]

/-- The place of an owner in that order, NONE after all users. -/
def busRank (o : BusOwner) : Nat := busUsers.idxOf o + 1

/-- A user's request for the slot; NONE takes every slot that is left. -/
def busRequest (s : State) (o : BusOwner) : Bool :=
  match o with
  | .refresh => reqRefresh s
  | .disk => reqDisk s
  | .audio => (audioRequest s).isSome
  | .sprite => (spriteRequest s).isSome
  | .bitplane => reqBitplane s
  | .copper => reqCopper s
  | .blitter => reqBlitter s
  | .cpu => s.bus.reqCPU
  | .none => true

/-- The owner is the first user that requests the slot. -/
theorem ownerOf_eq_find (s : State) : ownerOf s = (busUsers.find? (busRequest s)).getD .none := by
  unfold ownerOf
  split_ifs <;> simp [busUsers, busRequest, *]

/-- The owner requests the slot. -/
theorem busRequest_ownerOf (s : State) : busRequest s (ownerOf s) = true := by
  rw [ownerOf_eq_find]
  cases hfind : busUsers.find? (busRequest s) with
  | none => rfl
  | some o => exact List.find?_some hfind

/-- No user before the owner requests it. -/
theorem not_busRequest_of_busRank_lt {o : BusOwner} (h : busRank o < busRank (ownerOf s)) :
    ¬ busRequest s o = true := by
  have hplace : busUsers.idxOf o < busUsers.idxOf (ownerOf s) := Nat.lt_of_succ_lt_succ h
  have hlength : busUsers.idxOf o < busUsers.length := hplace.trans_le List.idxOf_le_length
  rw [ownerOf_eq_find] at hplace
  cases hfind : busUsers.find? (busRequest s) with
  | none => exact List.find?_eq_none.1 hfind o (List.idxOf_lt_length_iff.1 hlength)
  | some owner =>
    obtain ⟨-, i, hi, rfl, hbefore⟩ := List.find?_eq_some_iff_getElem.1 hfind
    have hdistinct : busUsers.Nodup := by decide
    rw [hfind, Option.getD_some, hdistinct.idxOf_getElem] at hplace
    simpa [List.getElem_idxOf hlength] using hbefore _ hplace

/-- The bus is free where no user before the Blitter requests it. -/
theorem busIsFree_iff : busIsFree s = true ↔ ∀ o, busRank o < 7 → ¬ busRequest s o = true := by
  have husers (o : BusOwner) : busRank o < 7 ↔ o ∈ [BusOwner.refresh, .disk, .audio, .sprite, .bitplane, .copper] := by
    cases o <;> decide
  simp [husers, busIsFree, busRequest, and_assoc]

end Sys2Proof.Machine

namespace Sys2Proof.Agnus

open Sys2Proof.Machine

/-- Settles O56: the owner is the first user in the order of rule R211 that requests the slot. -/
theorem arbiterPriority : Obligations.ArbiterPriority := by
  intro s h d request rank
  have hrequest (o : BusOwner) : request o ↔ busRequest s o = true := by
    cases o
    case none => exact iff_of_true trivial rfl
    case cpu => exact .rfl
    case copper => exact reqCopper_iff.symm
    case blitter => exact reqBlitter_iff.symm
    case bitplane => exact reqBitplane_iff.symm
    case sprite => exact spriteRequest_isSome_iff.symm
    case disk => exact reqDisk_iff.symm
    case audio => exact audioRequest_isSome_iff.symm
    case refresh => exact reqRefresh_iff.symm
  have hrank (o : BusOwner) : rank o = busRank o := by cases o <;> rfl
  simp only [hrequest, hrank]
  refine ⟨busRequest_ownerOf s, fun _ => not_busRequest_of_busRank_lt, busIsFree_iff, fun hcpu => ?_,
    fun hpri hwait hblitter => ?_⟩
  · have hfirst {o : BusOwner} (ho : busRank o < 8) : ¬ busRequest s o = true :=
      not_busRequest_of_busRank_lt (hcpu ▸ ho)
    have hown : busRequest s .cpu = true := hcpu ▸ busRequest_ownerOf s
    exact ⟨busIsFree_iff.2 fun o ho => hfirst (by omega), hown⟩
  · obtain ⟨-, -, -, -, hnasty⟩ := reqBlitter_iff.1 (hblitter ▸ busRequest_ownerOf s)
    rcases hnasty with hpri' | hpatient
    · exact Bool.false_ne_true (hpri.symm.trans hpri')
    · omega

end Sys2Proof.Agnus
end

section
/-! A slot granted to the CPU: what comes before the grant, and the register operation that the access decodes to
(rules R114, R132, R160, R222). -/

namespace Sys2Proof.Machine

variable {s : State}

/-! ### A slot before arbitration (rules R132, R209, R222) -/

/-- A powered machine without inputs and early events begins its step with the CPU's issue. -/
theorem step_eq_of_noEarlyEvent (hon : s.powered = true) (hinputs : s.ext.inputs = []) (hearly : NoEarlyEvent s) :
    step s = andThen (cpuIssue s) (fun u => busSlot (windowTick u)) := by
  have htaken : takeInputs s.ext.inputs s = .next s := by
    have hkept : { s with ext := { s.ext with inputs := [] } } = s := by rw [← hinputs]
    rw [hinputs, takeInputs, hkept]
  rw [step, machineStep, htaken, andThen_next, if_pos hon, slot, serveEvents_idle _ _ _ hearly, andThen_next]

/-- A CPU that waits for the bus issues nothing. -/
theorem cpuIssue_of_waiting (h : s.bus.reqCPU = true) : cpuIssue s = .next s := by
  rw [cpuIssue, if_pos h]

@[simp] theorem windowTick_cpu (s : State) : (windowTick s).cpu = s.cpu := by
  unfold windowTick
  dsimp only
  split <;> rfl

@[simp] theorem arbitrate_cpu (s : State) : (arbitrate s).cpu = s.cpu := by
  unfold arbitrate
  dsimp only
  split_ifs <;> rfl

/-! ### The access of a register operation (rules R114, R160) -/

/-- The address of a register operation. -/
def registerAddr (off : RegOff) : Addr := (0xDFF000#32 ||| off.setWidth 32).setWidth 24

theorem registerAccess_addr (off : RegOff) (op : RegOp) : (registerAccess off op).addr.setWidth 24 = registerAddr off :=
  rfl

/-- The offset stands below the page's base. -/
theorem registerAddr_toNat (off : RegOff) : (registerAddr off).toNat = 0xDFF000 + off.toNat := by
  have hoff : off.toNat < 2 ^ 9 := off.isLt
  have hor : 0xDFF000 ||| off.toNat = 0xDFF000 + off.toNat := (Nat.two_pow_add_eq_or_of_lt hoff 0x6FF8).symm
  rw [registerAddr, BitVec.toNat_setWidth, BitVec.toNat_or, BitVec.toNat_setWidth, BitVec.toNat_ofNat,
    Nat.mod_eq_of_lt (a := off.toNat) (by omega), Nat.mod_eq_of_lt (a := 0xDFF000) (by omega), hor]
  omega

theorem registerAddr_even {off : RegOff} (h : off.getLsbD 0 = false) : (registerAddr off).getLsbD 0 = false := by
  simpa [registerAddr] using h

/-- The address selects the offset. -/
theorem registerOffset_registerAddr {off : RegOff} (h : off.getLsbD 0 = false) :
    registerOffset (registerAddr off) = off := by
  have hlow : (registerAddr off).extractLsb' 0 9 = off := by
    apply BitVec.eq_of_toNat_eq
    rw [BitVec.extractLsb'_toNat, registerAddr_toNat, Nat.shiftRight_zero]
    omega
  have hmask : off &&& 0x1FE#9 = off := by
    ext i hi
    have heven : off[0] = false := h
    interval_cases i <;> simp [heven]
  rw [registerOffset, hlow, hmask]

/-- On the custom page an access is one to a register. -/
theorem regionOf_of_custom {a : Addr} (h : tableRegion s a = .custom) : regionOf s a = .custom := by
  simp [regionOf, beyondFast, h]

/-- The transfer of a register access runs the register operation. -/
theorem accessTransfer_registerAccess {off : RegOff} (heven : off.getLsbD 0 = false) (op : RegOp)
    (hpage : s.mem.memSrc.getD 0xDF .unmapped = .custom) :
    accessTransfer (registerAccess off op).op (registerAddr off) s = exec (decodeRegister off op) s := by
  have hregion : regionOf s (registerAddr off) = .custom := by
    refine regionOf_of_custom ?_
    have hindex : (registerAddr off).toNat / 0x10000 = 0xDF := by
      have hoff : off.toNat < 0x200 := off.isLt
      rw [registerAddr_toNat]
      omega
    rw [tableRegion, hindex, hpage]
  have haddr := registerAddr_even heven
  cases op with
  | read =>
    simp only [registerAccess, accessTransfer, evenAddr_of_even haddr, flagOdd_of_even haddr, read16, hregion,
      registerOffset_registerAddr heven]
  | write v =>
    simp only [registerAccess, accessTransfer, evenAddr_of_even haddr, flagOdd_of_even haddr, write16, hregion,
      registerOffset_registerAddr heven]

/-- The CPU's transfer of a register access: the operation, the word on the bus, the end of the access. -/
theorem cpuTransfer_registerAccess {off : RegOff} {op : RegOp} {rest : List CpuAccess} {cost : Nat}
    {later : List CpuInstr}
    (hqueue : s.cpu.queue = { accesses := registerAccess off op :: rest, cost := cost } :: later)
    (heven : off.getLsbD 0 = false) (hpage : s.mem.memSrc.getD 0xDF .unmapped = .custom) :
    cpuTransfer s = andThen (exec (decodeRegister off op) s) (fun u =>
      .next (finishAccess (registerAccess off op) rest cost later
        (recordBus .cpu (accessWord (registerAccess off op).op u) u))) := by
  rw [cpuTransfer, hqueue]
  dsimp only
  rw [← accessTransfer_registerAccess heven op hpage, registerAccess_addr]

end Sys2Proof.Machine

namespace Sys2Proof.Agnus

open Sys2Proof.Machine

/-- Settles O7: the step begins with the grant, whose transfer is the register operation, and goes on with the later
events. -/
theorem stepRunsRegisterAccess : Obligations.StepRunsRegisterAccess := by
  rintro s t off op rest cost later i hon hinputs hearly hwaits hqueue heven hpage rfl hcpu ⟨⟩
  have htransfer := cpuTransfer_registerAccess (s := arbitrate (windowTick s)) (by simpa using hqueue) heven
    (by rwa [arbitrate_mem, windowTick_mem])
  rw [step_eq_of_noEarlyEvent hon hinputs hearly, cpuIssue_of_waiting hwaits, andThen_next, busSlot, hcpu, transfers,
    ownerTransfer, htransfer]
  obtain ⟨u, hu⟩ := exec_answers (decodeRegister off op) (arbitrate (windowTick s))
  rw [hu, andThen_next, andThen_next, andThen_next]
  cases op <;> rfl

end Sys2Proof.Agnus
end

section
/-! The Copper (spec/41_copper.md): its comparator, the state in which a register write leaves it, and a Copper slot
with nothing from outside. -/

namespace Sys2Proof.Machine

variable {s t : State}

/-! ### The comparator (rules R154, R275) -/

/-- Two fields side by side are the high one's multiple plus the low one. -/
theorem toNat_append_eq_add {n m : Nat} (x : BitVec n) (y : BitVec m) : (x ++ y).toNat = x.toNat * 2 ^ m + y.toNat := by
  rw [BitVec.toNat_append, ← Nat.shiftLeft_add_eq_or_of_lt y.isLt, Nat.shiftLeft_eq]

theorem copTarget_toNat (vp : BitVec 8) (hp : BitVec 7) : (copTarget vp hp).toNat = vp.toNat * 0x80 + hp.toNat :=
  toNat_append_eq_add vp hp

theorem copMask_toNat (ve he : BitVec 7) : (copMask ve he).toNat = 0x4000 + ve.toNat * 0x80 + he.toNat := by
  rw [copMask, toNat_append_eq_add, toNat_append_eq_add, BitVec.toNat_ofNat]
  omega

theorem copBeam_toNat (v : BitVec 9) (h : BitVec 8) :
    (copBeam v h).toNat = v.toNat % 0x100 * 0x80 + h.toNat / 2 := by
  have hh : h.toNat < 2 ^ 8 := h.isLt
  rw [copBeam, toNat_append_eq_add, BitVec.extractLsb'_toNat, BitVec.extractLsb'_toNat, Nat.shiftRight_zero,
    Nat.shiftRight_eq_div_pow]
  omega

/-- The condition of WAIT and SKIP as arithmetic on the 15-bit values. -/
theorem copCondNow_eq (vp : BitVec 8) (hp : BitVec 7) (bfd : Bool) (ve he : BitVec 7) (s : State) :
    let mask := 0x4000 + ve.toNat * 0x80 + he.toNat
    copCondNow vp hp bfd ve he s = decide
      (((vp.toNat * 0x80 + hp.toNat) &&& mask ≤ (s.beam.v.toNat % 0x100 * 0x80 + s.beam.h.toNat / 2) &&& mask) ∧
        (bfd = true ∨ s.blitter.busy = false)) := by
  rw [copCondNow, copCond, BitVec.toNat_and, BitVec.toNat_and, copTarget_toNat, copMask_toNat, copBeam_toNat]
  simp

/-! ### A register write and the Copper's state (rules R263, R270, R480) -/

/-- The protected destinations as bounds on the offset. -/
theorem copProtected_iff (dest : Nat) (cdang : Bool) :
    copProtected dest cdang = true ↔ dest < 0x40 ∨ (dest < 0x80 ∧ cdang = false) := by
  simp [copProtected]

/-- The Copper's state is as it was, or a jump strobe has set it. -/
def CopStateKeptOrFetch (s t : State) : Prop := t.copper.st = s.copper.st ∨ t.copper.st = .fetch1

theorem CopStateKeptOrFetch.ite {u : State} {c : Prop} [Decidable c] (h : CopStateKeptOrFetch s t)
    (k : CopStateKeptOrFetch s u) : CopStateKeptOrFetch s (if c then t else u) := by
  split
  · exact h
  · exact k

theorem launch_copState (v : Word) (s : State) : CopStateKeptOrFetch s (launch v s) := by
  obtain ⟨chip, line, b, h⟩ := launch_changes v s
  exact .inl (by rw [h])

/-- The two strobes are the only control registers that set it. -/
theorem applyControl_copState (off : Nat) (v : Word) (s : State) : CopStateKeptOrFetch s (applyControl off v s) := by
  unfold applyControl
  iterate 4 refine .ite (.inl rfl) ?_
  iterate 2 refine .ite (.inr rfl) ?_
  iterate 8 refine .ite (.inl rfl) ?_
  exact .inl rfl

theorem applySystem_copState (off : Nat) (v : Word) (s : State) : CopStateKeptOrFetch s (applySystem off v s) :=
  .ite (.inl rfl) (.ite (.inl rfl) (.ite (.inl rfl) (.inl rfl)))

theorem applyBitplane_copState (off : Nat) (v : Word) (s : State) : CopStateKeptOrFetch s (applyBitplane off v s) := by
  unfold applyBitplane
  iterate 7 refine .ite (.inl rfl) ?_
  exact .inl rfl

theorem writeAttach_copper (n : Fin 8) (v : Word) (s : State) : (writeAttach n v s).copper = s.copper := by
  unfold writeAttach
  split <;> rfl

theorem applySprite_copState (off : Nat) (v : Word) (s : State) : CopStateKeptOrFetch s (applySprite off v s) := by
  unfold applySprite
  refine .ite (.inl rfl) (.ite (.inl ?_) (.ite (.inl rfl) (.inl rfl)))
  exact congrArg Copper.st (writeAttach_copper _ v _)

theorem applyReg_copState (off : Nat) (v : Word) (s : State) : CopStateKeptOrFetch s (applyReg off v s) := by
  unfold applyReg
  refine .ite (applySystem_copState off v s) ?_
  refine .ite (launch_copState v s) ?_
  refine .ite (.inl rfl) ?_
  refine .ite (applyControl_copState off v s) ?_
  refine .ite (applyBitplane_copState off v s) ?_
  refine .ite (.inl rfl) ?_
  exact .ite (applySprite_copState off v s) (.inl rfl)

theorem registerWrite_copState (off : Nat) (v : Word) (s : State) :
    CopStateKeptOrFetch s (registerWrite off v s) := by
  obtain h | h | h | h | h := registerWrite_cases off v s <;> rw [h]
  case inr.inr.inr.inr => exact applyReg_copState off v s
  all_goals exact .inl rfl

/-- The rows of rule R67 are the register operations at their offsets. -/
theorem isRegisterRow_of_mem_regRows : ∀ r ∈ regRows, IsRegisterRow r := by
  simp only [regRows, List.forall_mem_append, and_assoc]
  refine ⟨?_, ?_, ?_, ?_, ?_, ?_, ?_, ?_, ?_, ?_⟩
  all_goals
    repeat refine List.forall_mem_cons.2 ⟨fun _ _ => rfl, ?_⟩
    exact List.forall_mem_nil _

/-- The instruction at an offset is the register operation there. -/
theorem exec_decodeRegister (off : RegOff) (op : RegOp) (s : State) :
    exec (decodeRegister off op) s = .next (accessRegister off.toNat op s) := by
  unfold decodeRegister
  split
  case h_1 r hr =>
    have hoff : (r.1 == off.toNat) = true :=
      List.find?_some (p := fun row : Nat × (RegOp → Instr) => row.1 == off.toNat) hr
    rw [← beq_iff_eq.1 hoff]
    exact isRegisterRow_of_mem_regRows r (List.mem_of_find?_eq_some hr) op s
  case h_2 => rfl

theorem moveDest_eq (ra : BitVec 8) : moveDest ra = (ra ++ 0#1 : BitVec 9).toNat := by
  rw [toNat_append_eq_add, moveDest]
  exact Nat.mul_comm 2 _

/-- A MOVE to a protected destination halts the Copper. -/
theorem exec_copperMove_of_protected {ra : BitVec 8} (h : copProtected (moveDest ra) s.copper.cdang = true)
    (data : Word) : exec (.copperMove ra data) s = .next (setCopState .halted s) :=
  if_pos h

/-- A MOVE elsewhere is the register write, and leaves the Copper in FETCH1. -/
theorem exec_copperMove_of_not_protected {ra : BitVec 8} (h : ¬ copProtected (moveDest ra) s.copper.cdang = true)
    (hst : s.copper.st = .execute) (data : Word) :
    exec (.copperMove ra data) s = .next (setCopState .fetch1 (registerWrite (moveDest ra) data s)) := by
  refine (if_neg h).trans ?_
  obtain hkept | hfetch := registerWrite_copState (moveDest ra) data s
  · rw [if_pos (hkept.trans hst)]
  · rw [if_neg (by rw [hfetch]; decide), setCopState, withCopper, ← hfetch]

/-! ### A slot with nothing from outside (rules R132, R209, R215, R265) -/

/-- A CPU with nothing to do issues nothing. -/
theorem cpuIssue_of_idle (hqueue : s.cpu.queue = []) (hreq : s.bus.reqCPU = false) : cpuIssue s = .next s := by
  have hkept : { s with cpu := { s.cpu with queue := [] } } = s := by rw [← hqueue]
  rw [cpuIssue, hreq, hqueue, runIdle, hkept, issueNext, hqueue]
  rfl

/-- A quiet step is its slot from arbitration on. -/
theorem step_of_quiet (h : Quiet s) : step s = busSlot (windowTick s) := by
  obtain ⟨hon, hinputs, hearly, hqueue, hreq⟩ := h
  rw [step_eq_of_noEarlyEvent hon hinputs hearly, cpuIssue_of_idle hqueue hreq, andThen_next]

/-- The fetch window's tick changes the window and, with the modulos, the bitplane pointers. -/
theorem windowTick_changes (s : State) : ∃ window bpl, windowTick s = { s with window := window, bpl := bpl } := by
  unfold windowTick
  dsimp only
  split
  · exact ⟨_, _, rfl⟩
  · exact ⟨_, s.bpl, rfl⟩

/-! ### The Copper's event over the owner's transfer -/

/-- The Copper is as it was, and its event is due as before. -/
structure CopperUntouched (s t : State) : Prop where
  copper : t.copper = s.copper
  due    : eventDue slotCopper t = eventDue slotCopper s

theorem CopperUntouched.refl (s : State) : CopperUntouched s s := ⟨rfl, rfl⟩

theorem CopperUntouched.after {u : State} (k : CopperUntouched t u) (h : CopperUntouched s t) : CopperUntouched s u :=
  ⟨k.copper.trans h.copper, k.due.trans h.due⟩

theorem CopperUntouched.ite {u : State} {c : Prop} [Decidable c] (h : CopperUntouched s t) (k : CopperUntouched s u) :
    CopperUntouched s (if c then t else u) := by
  split
  · exact h
  · exact k

/-- Whether an event is due depends on its slot and the clock. -/
theorem eventDue_congr {i : Fin 13} (hslot : t.events.slots[i] = s.events.slots[i]) (hnow : t.now = s.now) :
    eventDue i t = eventDue i s := by
  rw [eventDue, eventDue, hslot, hnow]

theorem copperUntouched_scheduleData {i : Fin 13} (hi : i ≠ slotCopper) (trigger : BitVec 64) (id : EventId)
    (data : BitVec 64) (s : State) : CopperUntouched s (scheduleData i trigger id data s) :=
  ⟨rfl, eventDue_congr (Events.put_slots_other _ _ _ _ hi) rfl⟩

theorem copperUntouched_cancel {i : Fin 13} (hi : i ≠ slotCopper) (s : State) : CopperUntouched s (cancel i s) :=
  ⟨rfl, eventDue_cancel_other _ _ _ hi⟩

/-- A delayed write waits for the next slot. -/
theorem registerWrite_of_delayed {off : Nat} (hclass : regClass off = .writable) (hdelayed : isDelayed off = true)
    (v : Word) (s : State) : registerWrite off v s = enqueueWrite off v s := by
  unfold registerWrite
  rw [hclass]
  exact if_pos hdelayed

theorem copperUntouched_enqueueWrite (off : Nat) (v : Word) (s : State) : CopperUntouched s (enqueueWrite off v s) := by
  unfold enqueueWrite
  exact .after (copperUntouched_scheduleData (by decide) _ _ _ _) ⟨rfl, rfl⟩

theorem copperUntouched_registerWrite {off : Nat} (hclass : regClass off = .writable) (hdelayed : isDelayed off = true)
    (v : Word) (s : State) : CopperUntouched s (registerWrite off v s) := by
  rw [registerWrite_of_delayed hclass hdelayed]
  exact copperUntouched_enqueueWrite off v s

/-- The registers that sprite fetches write are delayed. -/
theorem spriteTarget_delayed (n : Fin 8) (dma : SprDma) (first : Bool) :
    regClass (spriteTarget n dma first) = .writable ∧ isDelayed (spriteTarget n dma first) = true := by
  have hrows : ∀ n : Fin 8, ∀ k ∈ [0, 2, 4, 6],
      regClass (0x140 + 8 * n.val + k) = .writable ∧ isDelayed (0x140 + 8 * n.val + k) = true := by decide +kernel
  refine hrows n _ ?_
  split_ifs <;> decide

/-- The registers that bitplane fetches write are delayed. -/
theorem bitplaneTarget_delayed : ∀ p : Fin 6,
    regClass (0x110 + 2 * p.val) = .writable ∧ isDelayed (0x110 + 2 * p.val) = true := by decide +kernel

theorem copperUntouched_spriteTransfer (n : Fin 8) (s : State) : CopperUntouched s (spriteTransfer n s) := by
  obtain ⟨hclass, hdelayed⟩ := spriteTarget_delayed n s.sprites[n].dma (s.cfg.slotMap.sprite[n].1 == s.beam.h.toNat)
  exact .after (copperUntouched_registerWrite hclass hdelayed _ _) ⟨rfl, rfl⟩

theorem copperUntouched_bitplaneTransfer (p : Fin 6) (s : State) : CopperUntouched s (bitplaneTransfer p s) := by
  obtain ⟨hclass, hdelayed⟩ := bitplaneTarget_delayed p
  exact .after (copperUntouched_registerWrite hclass hdelayed _ _) ⟨rfl, rfl⟩

theorem copperUntouched_diskTransfer (s : State) : CopperUntouched s (diskTransfer s) :=
  .ite ⟨rfl, rfl⟩ ⟨rfl, rfl⟩

theorem copperUntouched_bitplaneStep (o : BusOwner) (s : State) : CopperUntouched s (bitplaneStep o s) := by
  unfold bitplaneStep
  split
  · exact .ite (copperUntouched_bitplaneTransfer _ s) (.refl s)
  · exact .refl s

/-- The bitplanes' event. -/
theorem serveEvent_bitplane (o : BusOwner) (s : State) :
    ∃ u, serveEvent o slotBitplane s = .next u ∧ CopperUntouched s u := by
  unfold serveEvent
  split
  · exact ⟨_, rfl, .after (copperUntouched_bitplaneStep o _) (copperUntouched_cancel (by decide) s)⟩
  · exact ⟨s, rfl, .refl s⟩

/-- The transfer of an owner other than the Copper, the Blitter and the CPU leaves the Copper alone. -/
theorem ownerTransfer_copperUntouched {o : BusOwner} (hcopper : o ≠ .copper) (hblitter : o ≠ .blitter)
    (hcpu : o ≠ .cpu) (s : State) : ∃ u, ownerTransfer o s = .next u ∧ CopperUntouched s u := by
  cases o with
  | none => exact ⟨s, rfl, .refl s⟩
  | refresh => exact ⟨_, rfl, rfl, rfl⟩
  | disk => exact ⟨_, rfl, copperUntouched_diskTransfer s⟩
  | audio =>
    rw [ownerTransfer]
    split
    · exact ⟨_, rfl, rfl, rfl⟩
    · exact ⟨s, rfl, .refl s⟩
  | sprite =>
    rw [ownerTransfer]
    split
    · exact ⟨_, rfl, copperUntouched_spriteTransfer _ s⟩
    · exact ⟨s, rfl, .refl s⟩
  | bitplane => exact serveEvent_bitplane .bitplane s
  | copper => exact absurd rfl hcopper
  | blitter => exact absurd rfl hblitter
  | cpu => exact absurd rfl hcpu

/-- In a Copper slot arbitration makes the Copper's event due, and the Copper keeps its state. -/
theorem arbitrate_copperSlot (h : copperSlot s = true) :
    (arbitrate s).copper = s.copper ∧ eventDue slotCopper (arbitrate s) = true := by
  have hid : copperEventId s.copper ≠ .none := by
    unfold copperEventId
    split <;> decide
  let u := scheduleAbs slotCopper s.now (copperEventId s.copper) (countWait (ownerOf s) s)
  have hdue : eventDue slotCopper u = true := eventDue_scheduleAbs_now slotCopper _ (countWait (ownerOf s) s) hid
  have hother {i : Fin 13} (hi : i ≠ slotCopper) (id : EventId) (c : Prop) [Decidable c] (v : State) :
      CopperUntouched v (if c then scheduleAbs i s.now id v else v) :=
    .ite (copperUntouched_scheduleData hi _ _ _ v) (.refl v)
  have hkept : CopperUntouched u (arbitrate s) := by
    unfold arbitrate
    dsimp only
    rw [if_pos h]
    exact .after (hother (by decide) _ _ _) (hother (by decide) _ _ u)
  exact ⟨hkept.copper, hkept.due.trans hdue⟩

/-- A Copper that executes does not request the bus. -/
theorem reqCopper_of_execute (hst : s.copper.st = .execute) : reqCopper s = false := by
  simp [reqCopper, copperFetching, hst]

/-- A user that does not request the slot does not own it. -/
theorem ownerOf_ne {o : BusOwner} (h : busRequest s o = false) : ownerOf s ≠ o := by
  rintro rfl
  rw [busRequest_ownerOf] at h
  exact absurd h (by decide)

/-- The Copper's event in EXECUTE runs the decoded instruction. -/
theorem serveEvent_copper_of_execute (hdue : eventDue slotCopper s = true) (hst : s.copper.st = .execute)
    (o : BusOwner) :
    serveEvent o slotCopper s = exec (decodeCopper s.copper.ir1 s.copper.ir2) (cancel slotCopper s) := by
  rw [serveEvent_due o _ s hdue]
  change copperStep o (cancel slotCopper s) = _
  simp only [copperStep, cancel_copper, hst]

/-- The events from COPPER on begin with it. -/
theorem serveEvents_lateSlots (o : BusOwner) (s : State) :
    serveEvents o lateSlots s =
      andThen (serveEvent o slotCopper s) (serveEvents o [4, 5, 6, 7, 8, 9, 10, 11, 12]) :=
  rfl

end Sys2Proof.Machine

namespace Sys2Proof.Copper

open Sys2Proof.Machine

/-- Settles O40: the bounds on the offset are those of the protected destinations. -/
theorem copperMove : Obligations.CopperMove := by
  intro s ra data
  constructor
  · intro hlow
    exact exec_copperMove_of_protected ((copProtected_iff _ _).2 hlow) data
  · intro hhigh hst
    have hfree : ¬ copProtected (moveDest ra) s.copper.cdang = true := by
      rw [copProtected_iff, moveDest]
      rcases hhigh with hhigh | ⟨hlow, hdanger⟩
      · omega
      · simp [hdanger, hlow]
    refine ⟨registerWrite (moveDest ra) data s, ?_, exec_copperMove_of_not_protected hfree hst data⟩
    rw [exec_decodeRegister, ← moveDest_eq, accessRegister]

/-- Settles O41: the condition as arithmetic chooses the state. -/
theorem waitParks : Obligations.WaitParks := by
  intro s vp hp bfd ve he mask target beam
  change Host.Outcome.next (setCopState (if copCondNow vp hp bfd ve he s then .fetch1 else .waiting) s) = _
  simp only [copCondNow_eq, decide_eq_true_eq]
  rfl

/-- Settles O42: the condition as arithmetic is the mark. -/
theorem skipMarks : Obligations.SkipMarks := by
  intro s vp hp bfd ve he mask target beam
  change execCopperSkip vp hp bfd ve he s = _
  rw [execCopperSkip, copCondNow_eq]
  rfl

/-- Settles O43: the two states that fetch. -/
theorem copperFetches : Obligations.CopperFetches := by
  intro s w fetched
  constructor
  · intro hst
    simp only [copperFetch, hst]
    rfl
  · intro hst
    simp only [copperFetch, hst]
    rfl

/-- Settles O5: no owner of such a slot touches the Copper, whose event then runs the instruction. -/
theorem stepRunsCopperInstruction : Obligations.StepRunsCopperInstruction := by
  rintro s t i hquiet hst hslot hdecode hblitter rfl
  obtain rfl : decodeCopper s.copper.ir1 s.copper.ir2 = i := Except.ok.inj hdecode
  obtain ⟨window, bpl, htick⟩ := windowTick_changes s
  have hcopper : (windowTick s).copper = s.copper := by rw [htick]
  have hcopperSlot : copperSlot (windowTick s) = true := by rwa [htick]
  have hcpu : (windowTick s).bus.reqCPU = false := by
    obtain ⟨-, -, -, -, hreq⟩ := hquiet
    rwa [htick]
  obtain ⟨harbitrated, hdue⟩ := arbitrate_copperSlot hcopperSlot
  obtain ⟨u, htransfer, hkept⟩ := ownerTransfer_copperUntouched
    (ownerOf_ne (o := .copper) (reqCopper_of_execute (by rw [hcopper, hst])))
    (ownerOf_ne (o := .blitter) hblitter) (ownerOf_ne (o := .cpu) hcpu) (arbitrate (windowTick s))
  have hcopper_u : u.copper = s.copper := hkept.copper.trans (harbitrated.trans hcopper)
  have hserve := serveEvent_copper_of_execute (hkept.due.trans hdue) (by rw [hcopper_u, hst]) (ownerOf (windowTick s))
  rw [hcopper_u] at hserve
  obtain ⟨v, hexec⟩ := exec_answers (decodeCopper s.copper.ir1 s.copper.ir2) (cancel slotCopper u)
  rw [step_of_quiet hquiet, busSlot, transfers, htransfer, andThen_next, andThen_next, serveEvents_lateSlots, hserve,
    hexec, andThen_next, andThen_next]

end Sys2Proof.Copper
end

section
/-! The Blitter's operands bit by bit and as arithmetic: the minterm, the barrel shifter and the area fill (rules
R306-R308, R311). -/

namespace Sys2Proof.Machine

/-! ### The minterm (rule R306) -/

/-- A term's bit: `LF` holds the term, and the three inputs are those of its index. -/
theorem getLsbD_mintermTerm (a b c : Word) (lf : BitVec 8) (k : Nat) {i : Nat} (hi : i < 16) :
    (mintermTerm a b c lf k).getLsbD i = (lf.getLsbD k && (k.testBit 2 == a.getLsbD i) &&
      (k.testBit 1 == b.getLsbD i) && (k.testBit 0 == c.getLsbD i)) := by
  have hinput (x : Word) (p : Bool) : (if p then x else ~~~ x).getLsbD i = (p == x.getLsbD i) := by
    cases p <;> simp [hi]
  unfold mintermTerm
  split
  case isTrue hterm => simp only [BitVec.getLsbD_and, hinput, hterm, Bool.true_and]
  case isFalse hterm => simp [hterm]

/-! ### The barrel shifter (rules R307, R308) -/

/-- The low word of two words joined and shifted down. -/
theorem toNat_joined_shifted (high low : Word) (n : Nat) :
    (((high ++ low : BitVec 32) >>> n).setWidth 16).toNat = (high.toNat * 0x10000 + low.toNat) / 2 ^ n % 0x10000 := by
  simp only [BitVec.toNat_setWidth, BitVec.toNat_ushiftRight, toNat_append_eq_add, Nat.shiftRight_eq_div_pow,
    Nat.reducePow]

/-! ### The area fill (rule R311) -/

/-- The carry at bit `i + n`, from the carry at bit `i`: turned over by every set bit between. -/
def fillCarryFrom (d : Word) (i n : Nat) (carry : Bool) : Bool :=
  (List.range' i n).foldl (fun c k => c ^^ d.getLsbD k) carry

theorem fillCarryFrom_succ (d : Word) (i n : Nat) (carry : Bool) :
    fillCarryFrom d i (n + 1) carry = fillCarryFrom d (i + 1) n (carry ^^ d.getLsbD i) := by
  rw [fillCarryFrom, List.range'_succ, List.foldl_cons, fillCarryFrom]

/-- The fill's bit at a carry. -/
def fillOut (exclusive carry d : Bool) : Bool := if exclusive then carry ^^ d else carry || d

theorem fillBit_eq (exclusive carry d : Bool) : fillBit exclusive carry d = (fillOut exclusive carry d, carry ^^ d) := by
  cases exclusive <;> rfl

/-- The word of one bit. -/
theorem getLsbD_oneBit (o : Bool) {i j : Nat} (hj : j < 16) :
    (if o then 1#16 <<< i else 0#16).getLsbD j = (o && decide (j = i)) := by
  cases o
  · simp
  · rw [if_pos rfl, BitVec.getLsbD_shiftLeft, BitVec.getLsbD_one, Bool.eq_iff_iff]
    simp
    omega

/-- The carry out of the fill. -/
theorem fillBits_carry (exclusive : Bool) (d : Word) (n i : Nat) (carry : Bool) :
    (fillBits exclusive d n i carry).2 = fillCarryFrom d i n carry := by
  induction n generalizing i carry with
  | zero => rfl
  | succ n ih =>
    rw [fillCarryFrom_succ, ← ih]
    simp only [fillBits, fillBit_eq]

/-- No bit below the first is set. -/
theorem getLsbD_fillBits_below (exclusive : Bool) (d : Word) (n : Nat) {i j : Nat} (hj : j < i) (hi : i + n ≤ 16)
    (carry : Bool) : (fillBits exclusive d n i carry).1.getLsbD j = false := by
  induction n generalizing i carry with
  | zero => exact BitVec.getLsbD_zero
  | succ n ih =>
    simp only [fillBits, BitVec.getLsbD_or, getLsbD_oneBit _ (show j < 16 by omega), ih (hj.trans i.lt_succ_self)
      (by omega), Bool.or_false, decide_eq_false (Nat.ne_of_lt hj), Bool.and_false]

/-- Each bit is the fill's bit at its carry. -/
theorem getLsbD_fillBits (exclusive : Bool) (d : Word) {n k : Nat} (hk : k < n) {i : Nat} (hi : i + n ≤ 16)
    (carry : Bool) :
    (fillBits exclusive d n i carry).1.getLsbD (i + k) =
      fillOut exclusive (fillCarryFrom d i k carry) (d.getLsbD (i + k)) := by
  induction n generalizing i k carry with
  | zero => exact absurd hk k.not_lt_zero
  | succ n ih =>
    simp only [fillBits, fillBit_eq, BitVec.getLsbD_or, getLsbD_oneBit _ (show i + k < 16 by omega)]
    cases k with
    | zero =>
      rw [Nat.add_zero, getLsbD_fillBits_below exclusive d n i.lt_succ_self (by omega)]
      simp [fillCarryFrom]
    | succ k =>
      have hbit : i + (k + 1) = i + 1 + k := by omega
      rw [fillCarryFrom_succ, hbit, ih (Nat.lt_of_succ_lt_succ hk) (by omega), decide_eq_false (by omega),
        Bool.and_false, Bool.false_or]

end Sys2Proof.Machine

namespace Sys2Proof.Blitter

open Sys2Proof.Machine

/-- Settles O44: of the eight terms, the one whose index the three bits spell has `LF`'s bit. -/
theorem minterm : Obligations.Minterm := by
  intro a b c lf i hi
  simp only [Machine.minterm, BitVec.getLsbD_or, getLsbD_mintermTerm _ _ _ _ _ hi]
  cases a.getLsbD i <;> cases b.getLsbD i <;> cases c.getLsbD i <;> simp [Nat.testBit]

/-- Settles O45: the two words joined, shifted, and cut to 16 bits. -/
theorem barrelShift : Obligations.BarrelShift :=
  fun new old s _ => ⟨toNat_joined_shifted old new s, toNat_joined_shifted new old (16 - s)⟩

/-- Settles O46: the fill's 16 bits from bit 0 on. -/
theorem areaFill : Obligations.AreaFill := by
  intro con1 d carry carryAt
  have hcarryAt (n : Nat) : carryAt n = fillCarryFrom d 0 n carry := by
    rw [fillCarryFrom, ← List.range_eq_range']
  constructor
  · intro i hi
    have hbit := getLsbD_fillBits (efe con1) d hi (by decide : 0 + 16 ≤ 16) carry
    rwa [Nat.zero_add, ← hcarryAt] at hbit
  · rw [hcarryAt]
    exact fillBits_carry (efe con1) d 16 0 carry

end Sys2Proof.Blitter
end

section
/-! Line mode (rules R340-R348): each step of a line as a move of the pixel's place, and one pixel. -/

namespace Sys2Proof.Machine

/-! ### Pointers as integers (rules R119, R161) -/

/-- The pointer sum, modulo the address range. -/
theorem ptrAdd_toNat {c : Cfg} (hbits : c.dmaAddrBits ≤ 32) (p d : Ptr) :
    (ptrAdd c p d).toNat = (p.toNat + d.toNat) % 2 ^ c.dmaAddrBits := by
  have hpow : 2 ^ c.dmaAddrBits ≤ 2 ^ 32 := Nat.pow_le_pow_right (by decide) hbits
  have hpos : 0 < 2 ^ c.dmaAddrBits := Nat.two_pow_pos _
  rw [ptrAdd, BitVec.toNat_and, dmaMask, BitVec.toNat_ofNat, Nat.mod_eq_of_lt (by omega), Nat.and_two_pow_sub_one_eq_mod,
    BitVec.toNat_add, Nat.mod_mod_of_dvd _ (Nat.pow_dvd_pow 2 hbits)]

/-- Adding what stands for an integer moves the pointer by it. -/
theorem ptrAdd_modEq {c : Cfg} (hbits : c.dmaAddrBits ≤ 32) (p : Ptr) {d : Ptr} {n : Int}
    (hd : (d.toNat : Int) ≡ n [ZMOD 2 ^ 32]) :
    ((ptrAdd c p d).toNat : Int) ≡ p.toNat + n [ZMOD 2 ^ c.dmaAddrBits] := by
  rw [ptrAdd_toNat hbits]
  push_cast
  refine (Int.mod_modEq _ _).trans (.add_left _ (hd.of_dvd ?_))
  exact pow_dvd_pow 2 hbits

theorem ptrAdd_lt {c : Cfg} (hbits : c.dmaAddrBits ≤ 32) (p d : Ptr) :
    (ptrAdd c p d).toNat < 2 ^ c.dmaAddrBits := by
  rw [ptrAdd_toNat hbits]
  exact Nat.mod_lt _ (Nat.two_pow_pos _)

/-- A modulo's offset stands for the signed modulo. -/
theorem moduloOffset_modEq (m : Word) : ((moduloOffset m).toNat : Int) ≡ m.toInt [ZMOD 2 ^ 32] := by
  have hsigned : (moduloOffset m).toInt = m.toInt := BitVec.toInt_signExtend_of_le (by decide)
  rw [← hsigned, BitVec.toInt_eq_toNat_bmod, Int.modEq_iff_dvd]
  exact Int.dvd_bmod_sub_self

theorem neg_modEq {d : Ptr} {n : Int} (hd : (d.toNat : Int) ≡ n [ZMOD 2 ^ 32]) :
    ((-d).toNat : Int) ≡ -n [ZMOD 2 ^ 32] := by
  rw [BitVec.toNat_neg]
  unfold Int.ModEq at *
  omega

/-! ### The shift field (rules R40, R41, R344, R347) -/

theorem setShiftField_eq_append (con : Word) (n : BitVec 4) :
    setShiftField con n = (n ++ con.extractLsb' 0 12 : BitVec 16) := by
  apply BitVec.eq_of_getLsbD_eq
  intro i hi
  rw [BitVec.getLsbD_append]
  interval_cases i <;> simp [setShiftField]

theorem setShiftField_toNat (con : Word) (n : BitVec 4) :
    (setShiftField con n).toNat = n.toNat * 0x1000 + con.toNat % 0x1000 := by
  rw [setShiftField_eq_append, toNat_append_eq_add, BitVec.extractLsb'_toNat, Nat.shiftRight_zero]
  rfl

/-- The bits below the shift field. -/
theorem getLsbD_of_mod_eq {a b : Word} (h : a.toNat % 0x1000 = b.toNat % 0x1000) {i : Nat} (hi : i < 12) :
    a.getLsbD i = b.getLsbD i := by
  have hbit := congrArg (Nat.testBit · i) h
  rw [BitVec.getLsbD, BitVec.getLsbD]
  simpa [Nat.testBit_mod_two_pow _ 12, hi] using hbit

/-! ### The steps as moves (rule R344) -/

/-- A step changes the place and `oneDot` alone. -/
structure LinePlaceOnly (b b' : Blitter) : Prop where
  frame : b' = { b with bltcon0 := b'.bltcon0, bltcpt := b'.bltcpt, oneDot := b'.oneDot }
  con0  : b'.bltcon0.toNat % 0x1000 = b.bltcon0.toNat % 0x1000

variable {c : Cfg} {b : Blitter}

theorem LinePlaceOnly.refl (b : Blitter) : LinePlaceOnly b b := ⟨rfl, rfl⟩

theorem LinePlaceOnly.trans {b' b'' : Blitter} (h : LinePlaceOnly b b') (k : LinePlaceOnly b' b'') :
    LinePlaceOnly b b'' :=
  ⟨by rw [k.frame, h.frame], k.con0.trans h.con0⟩

theorem LinePlaceOnly.ite {p : Prop} [Decidable p] {b' b'' : Blitter} (h : LinePlaceOnly b b')
    (k : LinePlaceOnly b b'') : LinePlaceOnly b (if p then b' else b'') := by
  split
  · exact h
  · exact k

theorem linePlaceOnly_pixel (n : BitVec 4) (p : Ptr) (b : Blitter) :
    LinePlaceOnly b { b with bltcon0 := setShiftField b.bltcon0 n, bltcpt := p } := by
  refine ⟨rfl, ?_⟩
  rw [setShiftField_toNat]
  omega

theorem linePlaceOnly_row (p : Ptr) (b : Blitter) : LinePlaceOnly b { b with bltcpt := p, oneDot := false } :=
  ⟨rfl, rfl⟩

theorem linePlaceOnly_incX (c : Cfg) (b : Blitter) : LinePlaceOnly b (lineIncX c b) :=
  .ite (linePlaceOnly_pixel _ _ b) (linePlaceOnly_pixel _ b.bltcpt b)

theorem linePlaceOnly_decX (c : Cfg) (b : Blitter) : LinePlaceOnly b (lineDecX c b) :=
  .ite (linePlaceOnly_pixel _ _ b) (linePlaceOnly_pixel _ b.bltcpt b)

theorem linePlaceOnly_minor (c : Cfg) (b : Blitter) : LinePlaceOnly b (lineMinor c b) :=
  .ite (.ite (linePlaceOnly_row _ b) (linePlaceOnly_row _ b)) (.ite (linePlaceOnly_decX c b) (linePlaceOnly_incX c b))

theorem linePlaceOnly_major (c : Cfg) (b : Blitter) : LinePlaceOnly b (lineMajor c b) :=
  .ite (.ite (linePlaceOnly_decX c b) (linePlaceOnly_incX c b)) (.ite (linePlaceOnly_row _ b) (linePlaceOnly_row _ b))

/-- The pixel's place: eight times `bltcpt`, in bytes, plus `ASH`, in pixels. -/
def linePlace (b : Blitter) : Int := 8 * (b.bltcpt.toNat : Int) + (b.bltcon0.toNat / 0x1000 : Nat)

/-- A step of a line moves the pixel's place by `dx` pixels and `dy` rows, a row making the next pixel the first of
its row. -/
structure LineMove (c : Cfg) (dx dy : Int) (b b' : Blitter) : Prop where
  inside : b'.bltcpt = b.bltcpt ∨ b'.bltcpt.toNat < 2 ^ c.dmaAddrBits
  place  : linePlace b' ≡ linePlace b + dx + 8 * dy * b.bltcmod.toInt [ZMOD 8 * 2 ^ c.dmaAddrBits]
  oneDot : b'.oneDot = (b.oneDot && decide (dy = 0))

theorem LineMove.refl (c : Cfg) (b : Blitter) : LineMove c 0 0 b b where
  inside := .inl rfl
  place := by rw [mul_zero, zero_mul, add_zero, add_zero]
  oneDot := by simp

/-- One move after another, of which one stays in its row. -/
theorem LineMove.trans {dx dy dx' dy' : Int} {b' b'' : Blitter} (h : LineMove c dx dy b b')
    (k : LineMove c dx' dy' b' b'') (hmod : b'.bltcmod = b.bltcmod)
    (hrow : dy = 0 ∨ dy' = 0) : LineMove c (dx + dx') (dy + dy') b b'' where
  inside := by
    rcases k.inside with hsame | hinside
    · rw [hsame]
      exact h.inside
    · exact .inr hinside
  place := by
    have hsum := h.place.add_right (dx' + 8 * dy' * b.bltcmod.toInt)
    refine (hmod ▸ k.place).trans ?_
    convert hsum using 1 <;> ring
  oneDot := by
    rw [k.oneDot, h.oneDot, Bool.and_assoc, ← Bool.decide_and]
    congr 2
    rcases hrow with rfl | rfl <;> simp

/-- A row up or down: the pointer moves by what stands for the modulo. -/
theorem lineMove_row (hbits : c.dmaAddrBits ≤ 32) {d : Ptr} {dy : Int} (hdy : dy ≠ 0)
    (hd : (d.toNat : Int) ≡ dy * b.bltcmod.toInt [ZMOD 2 ^ 32]) :
    LineMove c 0 dy b { b with bltcpt := ptrAdd c b.bltcpt d, oneDot := false } where
  inside := .inr (ptrAdd_lt hbits _ _)
  place := by
    have h := ((ptrAdd_modEq hbits b.bltcpt hd).mul_left' (c := 8)).add_right ((b.bltcon0.toNat / 0x1000 : Nat) : Int)
    refine h.trans ?_
    unfold linePlace
    ring_nf
    rfl
  oneDot := by simp [hdy]

/-- A pixel left or right: `ASH`, and at the word's edge the pointer. -/
theorem lineMove_pixel {dx : Int} {p : Ptr} {n : BitVec 4} (hp : p = b.bltcpt ∨ p.toNat < 2 ^ c.dmaAddrBits)
    (hplace : 8 * (p.toNat : Int) + n.toNat ≡ linePlace b + dx [ZMOD 8 * 2 ^ c.dmaAddrBits]) :
    LineMove c dx 0 b { b with bltcon0 := setShiftField b.bltcon0 n, bltcpt := p } where
  inside := hp
  place := by
    have hshift : (setShiftField b.bltcon0 n).toNat / 0x1000 = n.toNat := by
      rw [setShiftField_toNat]
      omega
    rw [mul_zero, zero_mul, add_zero, linePlace, hshift]
    exact hplace
  oneDot := by simp

theorem lineMove_incX (hbits : c.dmaAddrBits ≤ 32) (b : Blitter) : LineMove c 1 0 b (lineIncX c b) := by
  have hfield := shiftField_eq b.bltcon0
  unfold lineIncX
  split
  case isTrue hedge =>
    refine lineMove_pixel (.inr (ptrAdd_lt hbits _ _)) ?_
    have h := (ptrAdd_modEq hbits b.bltcpt (d := 2#32) (n := 2) rfl).mul_left' (c := 8)
    convert h using 1
    · simp
    · rw [linePlace, ← hfield, hedge]
      ring
  case isFalse hinner =>
    refine lineMove_pixel (.inl rfl) ?_
    have hnext : (b.bltcon0.extractLsb' 12 4 + 1#4).toNat = b.bltcon0.toNat / 0x1000 + 1 := by
      have hsmall : shiftField b.bltcon0 < 2 ^ 4 := BitVec.isLt _
      rw [BitVec.toNat_add, ← hfield, Nat.mod_eq_of_lt]
      · rfl
      · change shiftField b.bltcon0 + 1 < _
        omega
    rw [hnext, linePlace]
    push_cast
    ring_nf
    rfl

theorem lineMove_decX (hbits : c.dmaAddrBits ≤ 32) (b : Blitter) : LineMove c (-1) 0 b (lineDecX c b) := by
  have hfield := shiftField_eq b.bltcon0
  unfold lineDecX
  split
  case isTrue hedge =>
    refine lineMove_pixel (.inr (ptrAdd_lt hbits _ _)) ?_
    have h := ((ptrAdd_modEq hbits b.bltcpt (d := 0xFFFFFFFE#32) (n := -2) (by decide)).mul_left' (c := 8)).add_right 15
    convert h using 1
    · rfl
    · rw [linePlace, ← hfield, hedge]
      ring
  case isFalse hinner =>
    refine lineMove_pixel (.inl rfl) ?_
    have hprev : ((b.bltcon0.extractLsb' 12 4 - 1#4).toNat : Int) = (b.bltcon0.toNat / 0x1000 : Nat) - 1 := by
      have hsmall : shiftField b.bltcon0 < 2 ^ 4 := BitVec.isLt _
      have hvalue : (b.bltcon0.extractLsb' 12 4).toNat = shiftField b.bltcon0 := rfl
      rw [BitVec.toNat_sub, ← hfield, hvalue]
      simp only [BitVec.toNat_ofNat]
      omega
    rw [hprev, linePlace]
    ring_nf
    rfl

theorem lineMove_incY (hbits : c.dmaAddrBits ≤ 32) (b : Blitter) : LineMove c 0 1 b (lineIncY c b) :=
  lineMove_row hbits (by decide) (by rw [one_mul]; exact moduloOffset_modEq _)

theorem lineMove_decY (hbits : c.dmaAddrBits ≤ 32) (b : Blitter) : LineMove c 0 (-1) b (lineDecY c b) :=
  lineMove_row hbits (by decide) (by rw [neg_one_mul]; exact neg_modEq (moduloOffset_modEq _))

/-- A unit step down or left where the bit is set. -/
def lineUnit (back : Bool) : Int := if back then -1 else 1

/-- The minor step is in y where the major one is in x. -/
theorem lineMove_minor (hbits : c.dmaAddrBits ≤ 32) (b : Blitter) :
    LineMove c (if sud b.bltcon1 then 0 else lineUnit (sul b.bltcon1))
      (if sud b.bltcon1 then lineUnit (sul b.bltcon1) else 0) b (lineMinor c b) := by
  unfold lineMinor lineUnit
  split_ifs
  · exact lineMove_decY hbits b
  · exact lineMove_incY hbits b
  · exact lineMove_decX hbits b
  · exact lineMove_incX hbits b

theorem lineMove_major (hbits : c.dmaAddrBits ≤ 32) (b : Blitter) :
    LineMove c (if sud b.bltcon1 then lineUnit (aul b.bltcon1) else 0)
      (if sud b.bltcon1 then 0 else lineUnit (aul b.bltcon1)) b (lineMajor c b) := by
  unfold lineMajor lineUnit
  split_ifs
  · exact lineMove_decX hbits b
  · exact lineMove_incX hbits b
  · exact lineMove_decY hbits b
  · exact lineMove_incY hbits b

/-- The Blitter at the next pixel's place: the minor step where the sign is clear, then the major one. -/
def lineMoved (c : Cfg) (b : Blitter) : Blitter := lineMajor c (if signBit b.bltcon1 then b else lineMinor c b)

theorem linePlaceOnly_moved (c : Cfg) (b : Blitter) : LinePlaceOnly b (lineMoved c b) :=
  .trans (.ite (.refl b) (linePlaceOnly_minor c b)) (linePlaceOnly_major c _)

theorem lineMove_moved (hbits : c.dmaAddrBits ≤ 32) (b : Blitter) :
    let major := lineUnit (aul b.bltcon1)
    let minor := if signBit b.bltcon1 then 0 else lineUnit (sul b.bltcon1)
    LineMove c (if sud b.bltcon1 then major else minor) (if sud b.bltcon1 then minor else major) b (lineMoved c b) := by
  intro major minor
  by_cases hsign : signBit b.bltcon1 = true
  · simp only [lineMoved, minor, hsign, if_true]
    exact lineMove_major hbits b
  · have hkept := linePlaceOnly_minor c b
    have hcon1 : (lineMinor c b).bltcon1 = b.bltcon1 := by rw [hkept.frame]
    have hmod : (lineMinor c b).bltcmod = b.bltcmod := by rw [hkept.frame]
    have hmajor := lineMove_major hbits (lineMinor c b)
    rw [hcon1] at hmajor
    have hrow : (if sud b.bltcon1 then lineUnit (sul b.bltcon1) else 0) = 0 ∨ (if sud b.bltcon1 then 0 else major) = 0 := by
      split
      · exact .inr rfl
      · exact .inl rfl
    have h := (lineMove_minor hbits b).trans hmajor hmod hrow
    simp only [lineMoved, minor, major, hsign, Bool.false_eq_true, if_false]
    convert h using 1 <;> split <;> simp

/-! ### The step (rules R341-R344, R347) -/

/-- `BLTCON1` after a step: the sign of the error term, and the next texture bit. -/
def lineCon1 (con1 : Word) (sign : Bool) : Word :=
  setShiftField (setSignBit con1 sign) (con1.extractLsb' 12 4 - 1#4)

theorem getLsbD_setSignBit (con1 : Word) (sign : Bool) {i : Nat} (hi : i < 16) :
    (setSignBit con1 sign).getLsbD i = if i = 6 then sign else con1.getLsbD i := by
  interval_cases i <;> simp [setSignBit]

theorem getLsbD_lineCon1 (con1 : Word) (sign : Bool) {i : Nat} (hi : i < 12) :
    (lineCon1 con1 sign).getLsbD i = if i = 6 then sign else con1.getLsbD i := by
  rw [lineCon1, setShiftField_eq_append, BitVec.getLsbD_append, if_pos hi, BitVec.getLsbD_extractLsb',
    getLsbD_setSignBit con1 sign (by omega)]
  simp [hi]

theorem lineCon1_kept (con1 : Word) (sign : Bool) : lineCon1 con1 sign &&& 0x0FBF#16 = con1 &&& 0x0FBF#16 := by
  apply BitVec.eq_of_getLsbD_eq
  intro i hi
  rw [BitVec.getLsbD_and, BitVec.getLsbD_and]
  by_cases hlow : i < 12
  · rw [getLsbD_lineCon1 con1 sign hlow]
    split
    case isTrue h =>
      subst h
      simp
    case isFalse => rfl
  · have hmask : (0x0FBF#16).getLsbD i = false := by interval_cases i <;> simp_all
    rw [hmask, Bool.and_false, Bool.and_false]

theorem lineCon1_shift (con1 : Word) (sign : Bool) :
    (lineCon1 con1 sign).toNat / 0x1000 = (con1.toNat / 0x1000 + 15) % 16 := by
  have hfield : (con1.extractLsb' 12 4).toNat = con1.toNat / 0x1000 := shiftField_eq con1
  rw [lineCon1, setShiftField_toNat, BitVec.toNat_sub, hfield]
  simp only [BitVec.toNat_ofNat]
  omega

/-- The error term after a step (rule R343). -/
def lineErrorTerm (c : Cfg) (b : Blitter) : Ptr :=
  if useA b.bltcon0 then
    ptrAdd c b.bltapt (moduloOffset (if signBit b.bltcon1 then b.bltbmod else b.bltamod))
  else b.bltapt

theorem lineError_eq (c : Cfg) (b : Blitter) : lineError c b = { b with bltapt := lineErrorTerm c b } := by
  unfold lineError lineErrorTerm
  split <;> rfl

/-- A step as one update: the place moved, the error term, the sign and the texture index. -/
theorem lineStep_eq (c : Cfg) (b : Blitter) :
    lineStep c b = { b with
      bltcon0 := (lineMoved c b).bltcon0, bltcon1 := lineCon1 b.bltcon1 ((lineErrorTerm c b).getLsbD 15)
      bltapt := lineErrorTerm c b, bltcpt := (lineMoved c b).bltcpt, bltdpt := (lineMoved c b).bltcpt
      oneDot := (lineMoved c b).oneDot } := by
  have hkept := linePlaceOnly_moved c b
  have huseA : useA (lineMoved c b).bltcon0 = useA b.bltcon0 := getLsbD_of_mod_eq hkept.con0 (by decide)
  have hterm : lineErrorTerm c (lineMoved c b) = lineErrorTerm c b := by
    rw [lineErrorTerm, huseA, hkept.frame]
    rfl
  have hstep : lineStep c b = { lineError c (lineMoved c b) with
      bltcon1 := lineCon1 (lineError c (lineMoved c b)).bltcon1 ((lineError c (lineMoved c b)).bltapt.getLsbD 15)
      bltdpt := (lineError c (lineMoved c b)).bltcpt } := rfl
  rw [hstep, lineError_eq, hterm, hkept.frame]

/-! ### One pixel -/

/-- A later access in the slot leaves its word (log entry 26). -/
theorem valueLine_valueLine (line : List BusEntry) (h : Nat) (v w : Word) :
    valueLine (valueLine line h v) h w = valueLine line h w := by
  unfold valueLine
  rw [List.map_map]
  refine List.map_congr_left fun e _ => ?_
  by_cases he : e.slot = h <;> simp [he]

/-- A pixel's accesses: a read where `reads`, then a store where `stores`; `kept` is the word held without a read. -/
theorem lineAccesses_eq (reads stores : Bool) (p q : Ptr) (d kept : Word) (s : State) :
    let s0 := if reads then chipFetch p s else s
    let c := if reads then chipRead16 p s else kept
    let line :=
      if stores then valueLine s.bus.line s.beam.h.toNat d
      else if reads then valueLine s.bus.line s.beam.h.toNat c else s.bus.line
    (if stores then chipWrite16 q d s0 else s0) = { s with
      mem := if stores then { s.mem with chip := s.mem.chip.setWord (chipOffset s.cfg q) d } else s.mem
      bus := { s.bus with line := line } } := by
  cases reads
  · cases stores <;> rfl
  · cases stores
    · rfl
    · simp only [if_true, chipWrite16, chipFetch, recordValue, valueLine_valueLine]

theorem zeroAfter_eq (zero : Bool) (d : Word) : zeroAfter zero d = (zero && decide (d = 0#16)) := by
  by_cases h : d = 0#16 <;> simp [zeroAfter, h]

/-- One pixel, its accesses and its step (rules R118, R341, R342). -/
theorem linePixel_eq (s : State) :
    let b := s.blitter
    let hidden := sing b.bltcon1 && b.oneDot
    let c := if useC b.bltcon0 then chipRead16 b.bltcpt s else b.chold
    let a := if hidden then 0#16 else (b.anew &&& b.bltafwm) >>> (b.bltcon0.toNat / 0x1000)
    let texture := if b.bnew.getLsbD (b.bltcon1.toNat / 0x1000) then 0xFFFF#16 else 0#16
    let d := minterm a texture c (mintermField b.bltcon0)
    let stores := useD b.bltcon0 && !hidden
    let line :=
      if stores then valueLine s.bus.line s.beam.h.toNat d
      else if useC b.bltcon0 then valueLine s.bus.line s.beam.h.toNat c else s.bus.line
    linePixel s = { s with
      mem := if stores then
          { s.mem with chip :=
            s.mem.chip.setWord (chipOffset s.cfg (if b.lineFirst then b.bltdpt else b.bltcpt)) d }
        else s.mem
      bus := { s.bus with line := line }
      blitter := lineStep s.cfg { b with
        chold := c, ahold := a, bhold := texture, dhold := d, zero := b.zero && decide (d = 0#16)
        oneDot := true, lineFirst := false } } := by
  intro b hidden c a texture d stores line
  unfold linePixel
  simp only [shiftField_eq, zeroAfter_eq]
  exact congrArg (withBlitter _) (lineAccesses_eq (useC b.bltcon0) stores b.bltcpt _ d b.chold s)

end Sys2Proof.Machine

namespace Sys2Proof.Blitter

open Sys2Proof.Machine

/-- Settles O53: the pixel's accesses and words, then the step as a move of the place. -/
theorem linePixel : Obligations.LinePixel := by
  intro s hbits b t k hidden c a texture d major minor dx dy place stores
  have ht : t = _ := linePixel_eq s
  let b' : Blitter := { b with
    chold := c, ahold := a, bhold := texture, dhold := d, zero := b.zero && decide (d = 0#16), oneDot := true
    lineFirst := false }
  have hmove : LineMove s.cfg dx dy b' (lineMoved s.cfg b') := lineMove_moved hbits b'
  have hkept := linePlaceOnly_moved s.cfg b'
  have hk : k = lineStep s.cfg b' := congrArg State.blitter ht
  have hmem : t.mem = _ := congrArg State.mem ht
  refine ⟨?_, hmem, ?_⟩
  · rw [hmem, hk]
    exact ht
  rw [hk, lineStep_eq]
  refine ⟨?_, hkept.con0, lineCon1_kept _ _, hmove.inside, Int.emod_eq_emod_iff_emod_sub_eq_zero.1 hmove.place, rfl,
    (getLsbD_lineCon1 _ _ (by decide)).trans (if_pos rfl), lineCon1_shift _ _⟩
  rw [hmove.oneDot]
  rfl

end Sys2Proof.Blitter
end

section
/-! What a micro-instruction word does to the Blitter's counters and status, and what the Blitter's data depend on (rules
R318, R320, R332, R351). -/

namespace Sys2Proof.Machine

variable {s t : State}

/-! ### What a word's actions leave of the Blitter -/

/-- What the registers and the program fix for a blit: its size, its direction and fill, its program, and that it
runs. -/
def blitSetup (b : Blitter) : Nat × Nat × Word × Option (List Word) × Bool := (b.w, b.hgt, b.bltcon1, b.prog, b.busy)

/-- What a word's transfers leave: the setup, the counters, `bltpc` and the fill carry. -/
def blitControl (b : Blitter) : Nat × Nat × Nat × Bool × Nat × Nat × Word × Option (List Word) × Bool :=
  (b.x, b.y, b.pc, b.fillCarry, blitSetup b)

theorem blitControl_writeD (s : State) : blitControl (writeD s).blitter = blitControl s.blitter := by
  unfold writeD
  split <;> rfl

theorem blitControl_whenAction {f : State → State} (hf : ∀ s, blitControl (f s).blitter = blitControl s.blitter)
    (w : Word) (a : MicroAction) (s : State) : blitControl (whenAction w a f s).blitter = blitControl s.blitter := by
  unfold whenAction
  split
  · exact hf s
  · rfl

theorem blitControl_dataTransfers (w : Word) (s : State) :
    blitControl (dataTransfers w s).blitter = blitControl s.blitter :=
  (blitControl_whenAction (f := fetchC) (fun _ => rfl) w _ _).trans <|
    (blitControl_whenAction (f := fetchB) (fun _ => rfl) w _ _).trans <|
      (blitControl_whenAction (f := fetchA) (fun _ => rfl) w _ _).trans <|
        blitControl_whenAction blitControl_writeD w _ s

/-- The setup, the counters, `bltpc` and the fill carry after a word: `REPEAT` counts, a row begins with the
carry `FCI`, and only `HOLD_D` computes one. -/
theorem dataActions_control (w : Word) (s : State) :
    let b := s.blitter
    let t := (dataActions w s).blitter
    let rowEnds := hasAction w .repeat && decide (b.x - 1 = 0)
    let y := if rowEnds then b.y - 1 else b.y
    blitSetup t = blitSetup b ∧
    t.x = (if hasAction w .repeat then (if rowEnds then b.w else b.x - 1) else b.x) ∧ t.y = y ∧
    t.pc = (if hasAction w .repeat && y != 0 then 0 else b.pc + 1) ∧
    (rowEnds = true → t.fillCarry = fci b.bltcon1) ∧
    (rowEnds = false → hasAction w .holdD = false → t.fillCarry = b.fillCarry) := by
  have hkept := blitControl_dataTransfers w s
  simp only [blitControl, blitSetup, Prod.mk.injEq] at hkept
  obtain ⟨hx, hy, hpc, hcarry, hw, hhgt, hcon1, hprog, hbusy⟩ := hkept
  rw [dataActions, dataHolds_eq]
  simp only [withBlitter_blitter, ite_holdA, ite_holdB, ite_holdD, ite_blitRepeat, blitSetup, hx, hy, hpc, hcarry, hw,
    hhgt, hcon1, hprog, hbusy, true_and]
  exact ⟨fun hends => if_pos hends, fun hends hholdD => by rw [hends, hholdD]; rfl⟩

/-- The data actions keep the setup. -/
theorem blitSetup_dataActions (w : Word) (s : State) : blitSetup (dataActions w s).blitter = blitSetup s.blitter :=
  (dataActions_control w s).1

/-- The slot's bus record of a word that holds the bus. -/
def slotRecord (w : Word) (s : State) : State := if needsBus w then recordBus .blitter (microBusValue w s) s else s

/-- A micro-instruction is its data actions, over the bus record of its slot, then `BLTDONE`. -/
theorem executeMicro_eq (w : Word) (s : State) :
    executeMicro w s = whenAction w .bltdone bltDone (dataActions w (slotRecord w s)) := rfl

theorem dataActions_ctl (w : Word) (s : State) : (dataActions w s).ctl = s.ctl := by
  obtain ⟨chip, line, b, h⟩ := blitterOnly_dataActions w s
  rw [h]

@[simp] theorem slotRecord_blitter (w : Word) (s : State) : (slotRecord w s).blitter = s.blitter := by
  unfold slotRecord
  split <;> rfl

@[simp] theorem slotRecord_ctl (w : Word) (s : State) : (slotRecord w s).ctl = s.ctl := by
  unfold slotRecord
  split <;> rfl

/-- A word without `BLTDONE` keeps the setup, and raises no interrupt. -/
theorem executeMicro_of_not_done {w : Word} (h : hasAction w .bltdone = false) (s : State) :
    blitSetup (executeMicro w s).blitter = blitSetup s.blitter ∧ (executeMicro w s).ctl = s.ctl := by
  rw [executeMicro_eq, whenAction, h, if_neg Bool.false_ne_true, blitSetup_dataActions, dataActions_ctl,
    slotRecord_blitter, slotRecord_ctl]
  exact ⟨rfl, rfl⟩

/-- A word with `BLTDONE` ends the blit and raises BLIT (rule R318). -/
theorem executeMicro_of_done {w : Word} (h : hasAction w .bltdone = true) (s : State) :
    (executeMicro w s).blitter.busy = false ∧ (executeMicro w s).blitter.prog = none ∧
    (executeMicro w s).blitter.pc = 0 ∧ (executeMicro w s).ctl.intreq = s.ctl.intreq ||| 0x0040#16 ∧
    (executeMicro w s).ctl.ipl = interruptLevel (s.ctl.intreq ||| 0x0040#16) s.ctl.intena := by
  rw [executeMicro_eq, whenAction_bltDone]
  simp only [h, if_true, dataActions_ctl, slotRecord_ctl, true_and]

/-- A word holds its constructor's action, and its other bits' actions. -/
theorem hasAction_bit_or (a c : MicroAction) (rest : Word) :
    hasAction (a.bit ||| rest) c = (decide (c.bitIndex = a.bitIndex) || hasAction rest c) := by
  rw [hasAction, BitVec.getLsbD_or, getLsbD_bit, hasAction]

/-! ### The data of a blit -/

/-- Two states with the same Blitter, memory and configuration but for the accuracy; where they are to be the same to
the bus, in this too and in the record of the line. -/
structure SameBlit (toBus : Prop) (s t : State) : Prop where
  cfg     : ∃ accuracy, t.cfg = { s.cfg with accuracy := accuracy }
  mem     : t.mem = s.mem
  blitter : t.blitter = s.blitter
  bus     : toBus → t.cfg = s.cfg ∧ t.bus.line = s.bus.line ∧ t.beam.h = s.beam.h

namespace SameBlit

variable {toBus : Prop}

theorem chipRead16_eq (h : SameBlit toBus s t) (p : Ptr) : chipRead16 p t = chipRead16 p s := by
  obtain ⟨accuracy, hcfg⟩ := h.cfg
  rw [chipRead16, hcfg, h.mem]
  rfl

/-- An update of the Blitter that reads the configuration at most. -/
theorem update (h : SameBlit toBus s t) {f g : Blitter → Blitter} (hfg : g s.blitter = f s.blitter) :
    SameBlit toBus (withBlitter f s) (withBlitter g t) where
  cfg := h.cfg
  mem := h.mem
  blitter := by rw [withBlitter_blitter, withBlitter_blitter, h.blitter, hfg]
  bus := h.bus

theorem recordValue (h : SameBlit toBus s t) (v : Word) : SameBlit toBus (recordValue v s) (recordValue v t) where
  cfg := h.cfg
  mem := h.mem
  blitter := h.blitter
  bus htoBus := by
    obtain ⟨hcfg, hline, hh⟩ := h.bus htoBus
    exact ⟨hcfg, by rw [recordValue_bus, recordValue_bus, hline, hh], hh⟩

theorem chipFetch (h : SameBlit toBus s t) (p : Ptr) : SameBlit toBus (chipFetch p s) (chipFetch p t) := by
  unfold Machine.chipFetch
  rw [h.chipRead16_eq]
  exact h.recordValue _

theorem chipWrite16 (h : SameBlit toBus s t) (p : Ptr) (v : Word) :
    SameBlit toBus (chipWrite16 p v s) (chipWrite16 p v t) := by
  obtain ⟨accuracy, hcfg⟩ := h.cfg
  have hoffset : chipOffset t.cfg p = chipOffset s.cfg p := by rw [hcfg]; rfl
  unfold Machine.chipWrite16
  rw [hoffset, h.mem]
  refine SameBlit.recordValue ?_ v
  exact ⟨h.cfg, rfl, h.blitter, h.bus⟩

theorem ite (h : SameBlit toBus s t) {f : State → State} (hf : SameBlit toBus (f s) (f t)) (c : Bool) :
    SameBlit toBus (if c then f s else s) (if c then f t else t) := by
  split
  · exact hf
  · exact h

theorem writeD (h : SameBlit toBus s t) : SameBlit toBus (writeD s) (writeD t) := by
  obtain ⟨accuracy, hcfg⟩ := h.cfg
  unfold Machine.writeD
  rw [h.blitter]
  split
  · exact h
  · exact (h.chipWrite16 _ _).update (by rw [hcfg]; rfl)

theorem fetchA (h : SameBlit toBus s t) : SameBlit toBus (fetchA s) (fetchA t) := by
  obtain ⟨accuracy, hcfg⟩ := h.cfg
  unfold Machine.fetchA
  rw [h.blitter]
  exact (h.chipFetch _).update (by rw [hcfg, h.chipRead16_eq]; rfl)

theorem fetchB (h : SameBlit toBus s t) : SameBlit toBus (fetchB s) (fetchB t) := by
  obtain ⟨accuracy, hcfg⟩ := h.cfg
  unfold Machine.fetchB
  rw [h.blitter]
  exact (h.chipFetch _).update (by rw [hcfg, h.chipRead16_eq]; rfl)

theorem fetchC (h : SameBlit toBus s t) : SameBlit toBus (fetchC s) (fetchC t) := by
  obtain ⟨accuracy, hcfg⟩ := h.cfg
  unfold Machine.fetchC
  rw [h.blitter]
  exact (h.chipFetch _).update (by rw [hcfg, h.chipRead16_eq]; rfl)

theorem whenAction {f : State → State} (hf : ∀ {s t}, SameBlit toBus s t → SameBlit toBus (f s) (f t))
    (h : SameBlit toBus s t) (w : Word) (a : MicroAction) : SameBlit toBus (whenAction w a f s) (whenAction w a f t) :=
  h.ite (hf h) (hasAction w a)

theorem dataActions (h : SameBlit toBus s t) (w : Word) : SameBlit toBus (dataActions w s) (dataActions w t) := by
  have htransfers : SameBlit toBus (dataTransfers w s) (dataTransfers w t) :=
    whenAction fetchC (whenAction fetchB (whenAction fetchA (whenAction writeD h w _) w _) w _) w _
  unfold Machine.dataActions
  rw [dataHolds_eq, dataHolds_eq]
  exact (((htransfers.update rfl).update rfl).update rfl).update rfl

theorem runData (h : SameBlit toBus s t) (words : List Word) (n : Nat) :
    SameBlit toBus (runData words n s) (runData words n t) := by
  induction n generalizing s t with
  | zero => exact h
  | succ n ih =>
    unfold Machine.runData
    rw [h.blitter]
    split
    · exact h
    · split
      · exact h.dataActions _
      · exact ih (h.dataActions _)

theorem linePixel (h : SameBlit True s t) : SameBlit True (linePixel s) (linePixel t) := by
  obtain ⟨hcfg, -, -⟩ := h.bus trivial
  unfold Machine.linePixel
  dsimp only
  rw [h.blitter, h.chipRead16_eq, hcfg]
  have hread := h.ite (h.chipFetch s.blitter.bltcpt) (useC s.blitter.bltcon0)
  exact (hread.ite (hread.chipWrite16 _ _) _).update rfl

theorem linePixels (h : SameBlit True s t) (n : Nat) : SameBlit True (linePixels n s) (linePixels n t) := by
  induction n generalizing s t with
  | zero => exact h
  | succ n ih => exact ih h.linePixel

end SameBlit

/-- The data of a program keep the setup. -/
theorem blitSetup_runData (words : List Word) (n : Nat) (s : State) :
    blitSetup (runData words n s).blitter = blitSetup s.blitter := by
  induction n generalizing s with
  | zero => rfl
  | succ n ih =>
    unfold runData
    split
    · rfl
    · split
      · exact blitSetup_dataActions _ s
      · exact (ih _).trans (blitSetup_dataActions _ s)

end Sys2Proof.Machine

namespace Sys2Proof.Blitter

open Sys2Proof.Machine

/-- Settles O48: a constructor's word holds `BLTDONE` where it leads or stands among the other bits. -/
theorem microInstructionsRun : Obligations.MicroInstructionsRun := by
  intro s rest
  refine ⟨rfl, ⟨_, rfl, executeMicro_of_done ?_ s⟩, fun hrest => ?_⟩
  · rw [microWord, hasAction_bit_or]
    rfl
  · intro runs
    have hruns (a : MicroAction) (ha : a.bitIndex ≠ 10) : runs (microInstr a rest) := by
      have hdone : hasAction (a.bit ||| rest) .bltdone = false := by
        rw [hasAction_bit_or, Bool.or_eq_false_iff, decide_eq_false_iff_not]
        exact ⟨ha.symm, hrest⟩
      obtain ⟨hsetup, hctl⟩ := executeMicro_of_not_done hdone s
      simp only [blitSetup, Prod.mk.injEq] at hsetup
      obtain ⟨-, -, -, hprog, hbusy⟩ := hsetup
      exact ⟨_, exec_microInstr a rest s, hbusy, hprog, hctl⟩
    exact ⟨hruns .busidle (by decide), hruns .bus (by decide), hruns .writeD (by decide), hruns .fetchA (by decide),
      hruns .fetchB (by decide), hruns .fetchC (by decide), hruns .holdA (by decide), hruns .holdB (by decide),
      hruns .holdD (by decide), hruns .fill (by decide), hruns .repeat (by decide)⟩

/-- Settles O49: the rows are selections; the data of the fast path keep the setup. -/
theorem programRows : Obligations.ProgramRows := by
  have hselects : ∀ r ∈ programTable.zipIdx, ∀ s : State,
      exec r.1.1 s = .next (selectProgram (60 - 4 * (r.2 / 4) + r.2 % 4) s) := by
    repeat refine List.forall_mem_cons.2 ⟨fun _ => rfl, ?_⟩
    exact List.forall_mem_nil _
  have hwords : ∀ r ∈ programTable.zipIdx,
      defaultBltProgram.getD (60 - 4 * (r.2 / 4) + r.2 % 4) [] = r.1.2 := by decide +kernel
  refine ⟨hselects, fun r hr s hcfg => ?_, fun s => rfl, fun s => ?_⟩
  · obtain ⟨index, hlength, rfl⟩ := List.getElem_of_mem hr
    have hindex : (programTable[index], index) ∈ programTable.zipIdx := by simp [List.mem_zipIdx_iff_getElem?]
    rw [hselects _ hindex, selectProgram, programWords, hcfg, hwords _ hindex]
    rfl
  · have hsetup := blitSetup_runData (programWords s.cfg (launchIndex s.blitter false)) (blitFuel s.blitter)
      (withBlitter (fun b => { b with pc := 0 }) s)
    simp only [blitSetup, Prod.mk.injEq] at hsetup
    obtain ⟨-, -, -, -, hbusy⟩ := hsetup
    have hprog : (fastBlit s).blitter.prog = some (programWords (fastBlit s).cfg (launchIndex s.blitter true)) := rfl
    refine ⟨fastBlit s, rfl, rfl, rfl, rfl, hbusy, ?_⟩
    rw [hprog, (steady_fastBlit s).cfg]
    rfl

end Sys2Proof.Blitter
end

section
/-! The launch of a blit (rules R301, R302, R345, R346, R352). -/

namespace Sys2Proof.Machine

variable {s t : State}

/-! ### What a launch leaves -/

/-- What the Blitter's data actions leave, by the three parts that they change. -/
theorem BlitterOnly.eq (h : BlitterOnly s t) :
    t = { s with
      mem := { s.mem with chip := t.mem.chip }, bus := { s.bus with line := t.bus.line }, blitter := t.blitter } := by
  obtain ⟨chip, line, b, rfl⟩ := h
  rfl

/-- Data actions over a state with the same Blitter and the same bus record. -/
theorem BlitterOnly.eq_of_same {u : State} (h : BlitterOnly s t) (hsame : SameBlit True t u) :
    t = { s with
      mem := { s.mem with chip := u.mem.chip }, bus := { s.bus with line := u.bus.line }, blitter := u.blitter } := by
  obtain ⟨-, hline, -⟩ := hsame.bus trivial
  rw [hsame.mem, hline, hsame.blitter]
  exact h.eq

/-- `W` as a remainder (rule R161). -/
theorem sizeW_eq (v : Word) : sizeW v = if v.toNat % 64 = 0 then 64 else v.toNat % 64 := by
  have hfield : (v.extractLsb' 0 6).toNat = v.toNat % 64 := by
    rw [BitVec.extractLsb'_toNat, Nat.shiftRight_zero]
  have hzero : v.extractLsb' 0 6 = 0 ↔ v.toNat % 64 = 0 := by
    rw [← BitVec.toNat_inj, hfield]
    rfl
  simp only [sizeW, hzero, hfield]

/-- `H` as a quotient (rule R161). -/
theorem sizeH_eq (v : Word) : sizeH v = if v.toNat / 64 = 0 then 1024 else v.toNat / 64 := by
  have hfield : (v.extractLsb' 6 10).toNat = v.toNat / 64 := by
    have hv : v.toNat < 2 ^ 16 := v.isLt
    rw [BitVec.extractLsb'_toNat, Nat.shiftRight_eq_div_pow]
    omega
  have hzero : v.extractLsb' 6 10 = 0 ↔ v.toNat / 64 = 0 := by
    rw [← BitVec.toNat_inj, hfield]
    rfl
  simp only [sizeH, hzero, hfield]

theorem linePixels_hgt (n : Nat) (s : State) : (linePixels n s).blitter.hgt = s.blitter.hgt := by
  induction n generalizing s with
  | zero => rfl
  | succ n ih =>
    refine (ih _).trans ?_
    rw [linePixel_eq, lineStep_eq]

/-- The state in which a launch starts. -/
def launched (v : Word) (s : State) : State := cancel slotBlitter (withBlitter (launchCounters v) s)

theorem selectLine_eq {height : Nat} (h : s.blitter.hgt = height) :
    selectLine s =
      withBlitter (fun b => { b with w := 1, x := 1, y := height, pc := 0, prog := some lineProgram }) s := by
  subst h
  rfl

/-- A line: all the pixels, then the bus program. -/
theorem launch_of_line {v : Word} (h : lineMode s.blitter.bltcon1 = true) :
    launch v s = withBlitter (fun b => { b with w := 1, x := 1, y := sizeH v, pc := 0, prog := some lineProgram })
      (linePixels (sizeH v)
        (withBlitter (fun b => { b with oneDot := false, lineFirst := true }) (launched v s))) :=
  (if_pos h).trans (selectLine_eq (linePixels_hgt _ _))

/-- An area blit: the program of its shape. -/
theorem launch_of_accurate {v : Word} (harea : lineMode s.blitter.bltcon1 = false) (hacc : s.cfg.accuracy = .accurate) :
    launch v s = selectProgram (launchIndex s.blitter false) (launched v s) := by
  refine (if_neg (ne_true_of_eq_false harea)).trans ?_
  rw [cancel_cfg, withBlitter_cfg, hacc]
  rfl

/-- An area blit in the fast path: the data of the program of its shape, then the stripped one with the counters
restored. -/
theorem launch_of_fast {v : Word} (harea : lineMode s.blitter.bltcon1 = false) (hacc : s.cfg.accuracy = .fast) :
    launch v s = selectProgram (launchIndex s.blitter true)
      (withBlitter (fun b => { b with x := sizeW v, y := sizeH v, pc := 0 })
        (runData (programWords s.cfg (launchIndex s.blitter false)) (blitFuel (launchCounters v s.blitter))
          (launched v s))) := by
  refine (if_neg (ne_true_of_eq_false harea)).trans ?_
  rw [cancel_cfg, withBlitter_cfg, hacc]
  rfl

end Sys2Proof.Machine

namespace Sys2Proof.Blitter

open Sys2Proof.Machine

/-- Settles O50: the data of the fast path and the pixels of a line do not read the events, so they are those of the
state with the counters set. -/
theorem bltsizeLaunches : Obligations.BltsizeLaunches := by
  intro s v b width height counted index leaves
  have hwidth : sizeW v = width := sizeW_eq v
  have hheight : sizeH v = height := sizeH_eq v
  clear_value width height
  subst hwidth hheight
  have hleaves {run : State} {k : Blitter} (h : launch v s = { s with
      mem := { s.mem with chip := run.mem.chip }, bus := { s.bus with line := run.bus.line }
      events := (cancel slotBlitter s).events, blitter := k }) : leaves run k := congrArg Host.Outcome.next h
  have hstart : SameBlit True (launched v s) { s with blitter := counted } :=
    ⟨⟨s.cfg.accuracy, rfl⟩, rfl, rfl, fun _ => ⟨rfl, rfl, rfl⟩⟩
  refine ⟨fun harea hacc => hleaves ?_, fun harea hacc => hleaves ?_, fun hline => hleaves ?_⟩
  · rw [launch_of_accurate harea hacc]
    rfl
  · rw [launch_of_fast harea hacc, (blitterOnly_runData _ _ _).eq_of_same (hstart.runData _ _)]
    rfl
  · rw [launch_of_line hline, (blitterOnly_linePixels _ _).eq_of_same ((hstart.update rfl).linePixels _)]
    rfl

end Sys2Proof.Blitter
end

section
/-! The course of an area blit: a program has a body, which every word of the blit repeats, and a tail, so the number of
words to execute counts down to `BLTDONE`; and the fast path leaves what the accurate program leaves (rules R320, R321,
R351, R355). -/

namespace Sys2Proof.Machine

variable {s t : State} {body tail n : Nat} {p : List Word}

/-! ### Programs of a body and a tail (rules R320, R321) -/

/-- A program of `body` words, of which the last holds `REPEAT`, and `tail` words, of which the last holds `BLTDONE` and
none computes a word. -/
def blitProgram (body tail : Nat) (p : List Word) : Bool :=
  decide (0 < body) && decide (0 < tail) && decide (p.length = body + tail) && p.zipIdx.all fun r =>
    (hasAction r.1 .repeat == decide (r.2 + 1 = body)) && (hasAction r.1 .bltdone == decide (r.2 + 1 = body + tail)) &&
      (decide (r.2 < body) || !hasAction r.1 .holdD)

/-- A program that neither transfers nor computes: bits 2 to 9 of its words are clear. -/
def strippedProgram (p : List Word) : Bool := p.all fun w => w &&& 0x03FC#16 == 0#16

theorem blitProgram_pos (hp : blitProgram body tail p = true) : 0 < body ∧ 0 < tail := by
  simp only [blitProgram, Bool.and_eq_true, decide_eq_true_eq] at hp
  obtain ⟨⟨hpos, -⟩, -⟩ := hp
  exact hpos

/-- The programs of the default table, accurate and fast, with the lengths of rule R321. -/
theorem blitProgram_default : ∀ (shape : BitVec 4) (fill fast : Bool),
    blitProgram (bodyLength shape) (tailLength shape)
      (defaultBltProgram.getD (programIndex shape fill fast) []) = true := by
  decide +kernel

theorem strippedProgram_default : ∀ (shape : BitVec 4) (fill : Bool),
    strippedProgram (defaultBltProgram.getD (programIndex shape fill true) []) = true := by
  decide +kernel

/-! ### The words to go -/

/-- The counters and `bltpc` of a blit with `n` words to execute: in the body, with `left` repetitions to follow the
present one; or in the tail, after the last row. -/
inductive BlitAt (body tail n : Nat) (b : Blitter) : Prop
  | inBody (left : Nat) (hpc : b.pc < body) (hx : 1 ≤ b.x) (hw : 1 ≤ b.w) (hy : 1 ≤ b.y)
      (hleft : (b.y - 1) * b.w + b.x = left + 1) (hn : n + b.pc = body * left + body + tail)
  | inTail (hpc : body ≤ b.pc) (hcarry : b.fillCarry = fci b.bltcon1) (hpos : 0 < n) (hn : n + b.pc = body + tail)

/-- The word at `bltpc`, and that it ends the blit when it is the last to go. -/
theorem BlitAt.word {b : Blitter} (hp : blitProgram body tail p = true) (h : BlitAt body tail n b) :
    ∃ w, p[b.pc]? = some w ∧ hasAction w .repeat = decide (b.pc + 1 = body) ∧
      hasAction w .bltdone = decide (n = 1) ∧ (body ≤ b.pc → hasAction w .holdD = false) := by
  simp only [blitProgram, Bool.and_eq_true, decide_eq_true_eq, List.all_eq_true, beq_iff_eq, Bool.or_eq_true,
    Bool.not_eq_true'] at hp
  obtain ⟨⟨⟨hbody, htail⟩, hlength⟩, hwords⟩ := hp
  have hpc : b.pc < p.length ∧ (b.pc + 1 = body + tail ↔ n = 1) := by
    cases h with
    | inBody left hpc hx hw hy hleft hn => omega
    | inTail hpc hcarry hpos hn => omega
  obtain ⟨hlt, hlast⟩ := hpc
  obtain ⟨⟨hrepeat, hdone⟩, hholdD⟩ := hwords (p[b.pc], b.pc) (by simp [List.mem_zipIdx_iff_getElem?])
  exact ⟨p[b.pc], List.getElem?_eq_getElem hlt, hrepeat, hdone.trans (decide_eq_decide.2 hlast),
    fun h => hholdD.resolve_left (not_lt.2 h)⟩

/-- Each word but the last leaves one word less to go. -/
theorem BlitAt.next {w : Word} (h : BlitAt body tail (n + 2) s.blitter)
    (hrepeat : hasAction w .repeat = decide (s.blitter.pc + 1 = body))
    (hholdD : body ≤ s.blitter.pc → hasAction w .holdD = false) :
    BlitAt body tail (n + 1) (dataActions w s).blitter := by
  obtain ⟨hsetup, hx', hy', hpc', hrowCarry, hkeptCarry⟩ := dataActions_control w s
  simp only [blitSetup, Prod.mk.injEq] at hsetup
  obtain ⟨hw', -, hcon1', -, -⟩ := hsetup
  cases h with
  | inTail hpc hcarry hpos hn =>
    have hno : hasAction w .repeat = false := by
      rw [hrepeat, decide_eq_false_iff_not]
      omega
    simp only [hno, Bool.false_and, Bool.false_eq_true, if_false] at hpc' hkeptCarry
    refine .inTail (by omega) ?_ (by omega) (by omega)
    rw [hkeptCarry trivial (hholdD hpc), hcarry, hcon1']
  | inBody left hpc hx hw hy hleft hn =>
    by_cases hend : s.blitter.pc + 1 = body
    case neg =>
      rw [decide_eq_false hend] at hrepeat
      simp only [hrepeat, Bool.false_and, Bool.false_eq_true, if_false] at hpc' hx' hy'
      exact .inBody left (by omega) (by omega) (by omega) (by omega) (by rw [hy', hw', hx', hleft]) (by omega)
    case pos =>
      rw [decide_eq_true hend] at hrepeat
      by_cases hrow : s.blitter.x - 1 = 0
      case neg =>
        obtain ⟨left, rfl⟩ : ∃ k, left = k + 1 := ⟨left - 1, by omega⟩
        have hy0 : s.blitter.y ≠ 0 := by omega
        simp [hrepeat, hrow, hy0] at hpc' hx' hy'
        rw [Nat.mul_succ] at hn
        exact .inBody left (by omega) (by omega) (by omega) (by omega) (by rw [hy', hw', hx']; omega) (by omega)
      case pos =>
        simp [hrepeat, hrow] at hpc' hx' hy' hrowCarry
        by_cases hlast : s.blitter.y - 1 = 0
        case pos =>
          obtain rfl : left = 0 := by
            rw [hlast] at hleft
            omega
          simp only [hlast, if_true] at hpc'
          exact .inTail (by omega) (by rw [hrowCarry, hcon1']) (by omega) (by omega)
        case neg =>
          have hrows : (s.blitter.y - 1 - 1) * s.blitter.w + s.blitter.w = (s.blitter.y - 1) * s.blitter.w := by
            rw [← Nat.succ_mul, Nat.succ_eq_add_one, Nat.sub_add_cancel (by omega)]
          obtain ⟨left, rfl⟩ : ∃ k, left = k + 1 := ⟨left - 1, by omega⟩
          simp only [hlast, if_false] at hpc'
          rw [Nat.mul_succ] at hn
          exact .inBody left (by omega) (by omega) (by omega) (by omega) (by rw [hy', hw', hx']; omega) (by omega)

/-! ### The run -/

/-- A blit that runs a program, with `n` words to execute. -/
structure BlitRuns (body tail : Nat) (p : List Word) (n : Nat) (b : Blitter) : Prop where
  prog     : b.prog = some p
  busy     : b.busy = true
  counters : BlitAt body tail n b

/-- At its start the program has all its repetitions to go. -/
theorem blitRuns_start {b : Blitter} {width height : Nat} (hp : blitProgram body tail p = true)
    (hprog : b.prog = some p) (hbusy : b.busy = true) (hpc : b.pc = 0) (hw : b.w = width) (hx : b.x = width)
    (hy : b.y = height) (hwidth : 1 ≤ width) (hheight : 1 ≤ height) :
    BlitRuns body tail p (body * (width * height) + tail) b := by
  obtain ⟨hbody, -⟩ := blitProgram_pos hp
  have hwords : (height - 1) * width + width = width * height := by
    rw [← Nat.succ_mul, Nat.succ_eq_add_one, Nat.sub_add_cancel hheight, Nat.mul_comm]
  obtain ⟨left, hleft⟩ : ∃ k, width * height = k + 1 := ⟨width * height - 1, by omega⟩
  refine ⟨hprog, hbusy, .inBody left (by omega) (by omega) (by omega) (by omega) (by rw [hx, hy, hw, hwords, hleft]) ?_⟩
  rw [hleft, hpc, Nat.mul_succ]
  omega

/-- A micro-instruction of the blit: its word, which is the last when no other is to go. -/
theorem BlitRuns.word (hp : blitProgram body tail p = true) (h : BlitRuns body tail p n s.blitter) :
    ∃ w, p[s.blitter.pc]? = some w ∧ blitterOne s = executeMicro w s ∧ hasAction w .bltdone = decide (n = 1) ∧
      hasAction w .repeat = decide (s.blitter.pc + 1 = body) ∧
      (body ≤ s.blitter.pc → hasAction w .holdD = false) := by
  obtain ⟨w, hw, hrepeat, hdone, hholdD⟩ := h.counters.word hp
  have hinst : blitterInst s.blitter = some w := blitterInst_eq_some_iff.2 ⟨p, h.prog, hw⟩
  exact ⟨w, hw, by rw [blitterOne, hinst], hdone, hrepeat, hholdD⟩

/-- A word of the blit that is not the last is its data actions, and the blit goes on. -/
theorem BlitRuns.next (hp : blitProgram body tail p = true) (h : BlitRuns body tail p (n + 2) s.blitter) :
    ∃ w, p[s.blitter.pc]? = some w ∧ hasAction w .bltdone = false ∧
      blitterOne s = dataActions w (slotRecord w s) ∧ (blitterOne s).blitter.bltcon1 = s.blitter.bltcon1 ∧
      BlitRuns body tail p (n + 1) (blitterOne s).blitter := by
  obtain ⟨w, hw, hone, hdone, hrepeat, hholdD⟩ := h.word hp
  have hnot : hasAction w .bltdone = false := by
    rw [hdone, decide_eq_false_iff_not]
    omega
  have hdata : blitterOne s = dataActions w (slotRecord w s) := by
    rw [hone, executeMicro_eq, whenAction, hnot, if_neg Bool.false_ne_true]
  have hsetup := blitSetup_dataActions w (slotRecord w s)
  simp only [blitSetup, Prod.mk.injEq, slotRecord_blitter] at hsetup
  obtain ⟨-, -, hcon1, hprog, hbusy⟩ := hsetup
  have hcounters := h.counters
  rw [← slotRecord_blitter w s] at hcounters hrepeat hholdD
  rw [hdata]
  exact ⟨w, hw, hnot, rfl, hcon1, hprog.trans h.prog, hbusy.trans h.busy, hcounters.next hrepeat hholdD⟩

/-- The last word ends the blit, with the carry of the beginning of a row. -/
theorem BlitRuns.last (hp : blitProgram body tail p = true) (h : BlitRuns body tail p 1 s.blitter) :
    (blitterOne s).blitter.busy = false ∧ (blitterOne s).ctl.intreq.getLsbD 6 = true ∧
      (blitterOne s).blitter.fillCarry = fci s.blitter.bltcon1 := by
  obtain ⟨-, htail⟩ := blitProgram_pos hp
  obtain ⟨w, -, hone, hdone, hrepeat, hholdD⟩ := h.word hp
  obtain ⟨hbusy, -, -, hintreq, -⟩ := executeMicro_of_done (hdone.trans (decide_eq_true rfl)) s
  rw [hone]
  refine ⟨hbusy, by simp [hintreq], ?_⟩
  cases h.counters with
  | inBody left hpc hx hw hy hleft hn => omega
  | inTail hpc hcarry hpos hn =>
    obtain ⟨-, -, -, -, -, hkept⟩ := dataActions_control w (slotRecord w s)
    have hno : hasAction w .repeat = false := by
      rw [hrepeat, decide_eq_false_iff_not]
      omega
    rw [executeMicro_eq, whenAction_bltDone, ← hcarry]
    simpa [hno] using hkept (by simp [hno]) (hholdD hpc)

/-- The blit is busy until its last word, and that word ends it. -/
theorem BlitRuns.course (hp : blitProgram body tail p = true) (h : BlitRuns body tail p (n + 1) s.blitter) :
    (∀ k ≤ n, (blitterRun k s).blitter.busy = true) ∧ (blitterRun (n + 1) s).blitter.busy = false ∧
      (blitterRun (n + 1) s).ctl.intreq.getLsbD 6 = true ∧
      (blitterRun (n + 1) s).blitter.fillCarry = fci s.blitter.bltcon1 := by
  induction n generalizing s with
  | zero =>
    refine ⟨fun k hk => ?_, h.last hp⟩
    obtain rfl : k = 0 := Nat.le_zero.1 hk
    exact h.busy
  | succ n ih =>
    obtain ⟨w, -, -, -, hcon1, hnext⟩ := h.next hp
    obtain ⟨hbusy, hends⟩ := ih hnext
    rw [hcon1] at hends
    refine ⟨fun k hk => ?_, hends⟩
    cases k with
    | zero => exact h.busy
    | succ k => exact hbusy k (Nat.le_of_succ_le_succ hk)

/-! ### What a blit leaves (rule R351) -/

/-- What the two accuracy settings leave alike, but for the fill carry. -/
def blitResults (s : State) : Mem × Ptr × Ptr × Ptr × Ptr × Bool × Word × Word × Word :=
  (s.mem, s.blitter.bltapt, s.blitter.bltbpt, s.blitter.bltcpt, s.blitter.bltdpt, s.blitter.zero, s.blitter.aold,
    s.blitter.bold, s.blitter.dhold)

theorem blitResults_slotRecord (w : Word) (s : State) : blitResults (slotRecord w s) = blitResults s := by
  unfold slotRecord
  split <;> rfl

/-- The bus and `BLTDONE` leave the results. -/
theorem blitResults_executeMicro (w : Word) (s : State) :
    blitResults (executeMicro w s) = blitResults (dataActions w (slotRecord w s)) := by
  rw [executeMicro_eq, whenAction]
  split <;> rfl

theorem SameBlit.blitResults {toBus : Prop} (h : SameBlit toBus s t) : blitResults t = blitResults s := by
  unfold Machine.blitResults
  rw [h.mem, h.blitter]

/-- Over the bus record of the slot a word does what it does without. -/
theorem SameBlit.slotRecord_right (h : SameBlit False s t) (w : Word) : SameBlit False s (slotRecord w t) := by
  unfold slotRecord
  split
  · exact ⟨h.cfg, h.mem, h.blitter, False.elim⟩
  · exact h

/-- The fast path's data are those of the program's words executed one by one. -/
theorem BlitRuns.blitResults_runData (hp : blitProgram body tail p = true)
    (h : BlitRuns body tail p (n + 1) s.blitter) (hsame : SameBlit False t s) {fuel : Nat} (hfuel : n + 1 ≤ fuel) :
    blitResults (runData p fuel t) = blitResults (blitterRun (n + 1) s) := by
  induction n generalizing s t fuel with
  | zero =>
    obtain ⟨fuel, rfl⟩ : ∃ k, fuel = k + 1 := ⟨fuel - 1, by omega⟩
    obtain ⟨w, hw, hone, hdone, -, -⟩ := h.word hp
    rw [hsame.blitter] at hw
    simp only [runData, hw, hdone, decide_true, if_true, blitterRun, hone]
    rw [blitResults_executeMicro, ((hsame.slotRecord_right w).dataActions w).blitResults]
  | succ n ih =>
    obtain ⟨fuel, rfl⟩ : ∃ k, fuel = k + 1 := ⟨fuel - 1, by omega⟩
    obtain ⟨w, hw, hnot, hdata, -, hnext⟩ := h.next hp
    rw [hsame.blitter] at hw
    simp only [runData, hw, hnot, Bool.false_eq_true, if_false]
    refine ih hnext ?_ (Nat.le_of_succ_le_succ hfuel)
    rw [hdata]
    exact (hsame.slotRecord_right w).dataActions w

/-- `REPEAT` leaves the results. -/
theorem blitResults_blitRepeat (s : State) : blitResults (withBlitter blitRepeat s) = blitResults s := by
  have hrepeat := ite_blitRepeat true s.blitter
  rw [if_pos rfl] at hrepeat
  rw [withBlitter, hrepeat]
  rfl

/-- The words of a stripped program leave the results. -/
theorem blitResults_stripped {w : Word} (h : w &&& 0x03FC#16 = 0#16) (s : State) :
    blitResults (dataActions w s) = blitResults s := by
  have hclear (a : MicroAction) (ha : (0x03FC#16).getLsbD a.bitIndex = true) : hasAction w a = false := by
    have hbit := congrArg (BitVec.getLsbD · a.bitIndex) h
    rwa [BitVec.getLsbD_and, ha, Bool.and_true, BitVec.getLsbD_zero] at hbit
  have hwithout (a : MicroAction) (f : State → State) (ha : (0x03FC#16).getLsbD a.bitIndex = true) (s : State) :
      whenAction w a f s = s := by
    rw [whenAction, hclear a ha, if_neg Bool.false_ne_true]
  simp only [dataActions, dataTransfers, dataHolds]
  iterate 7 rw [hwithout _ _ (by decide)]
  split
  · exact blitResults_blitRepeat s
  · rfl

/-- A stripped program runs until it ends, and leaves the results. -/
theorem blitterOne_stripped (hp : strippedProgram p = true)
    (hprog : s.blitter.prog = some p ∨ s.blitter.prog = none) :
    blitResults (blitterOne s) = blitResults s ∧
      ((blitterOne s).blitter.prog = some p ∨ (blitterOne s).blitter.prog = none) := by
  unfold blitterOne
  split
  case h_1 => exact ⟨rfl, hprog⟩
  case h_2 w hinst =>
    obtain ⟨q, hq, hw⟩ := blitterInst_eq_some_iff.1 hinst
    have hprogram : s.blitter.prog = some p := hprog.resolve_right (by simp [hq])
    obtain rfl : q = p := Option.some.inj (hq.symm.trans hprogram)
    have hclear : w &&& 0x03FC#16 = 0#16 := beq_iff_eq.1 (List.all_eq_true.1 hp w (List.mem_of_getElem? hw))
    constructor
    · rw [blitResults_executeMicro, blitResults_stripped hclear, blitResults_slotRecord]
    · cases hdone : hasAction w .bltdone
      · obtain ⟨hsetup, -⟩ := executeMicro_of_not_done hdone s
        simp only [blitSetup, Prod.mk.injEq] at hsetup
        obtain ⟨-, -, -, hkept, -⟩ := hsetup
        exact .inl (hkept.trans hq)
      · obtain ⟨-, hnone, -⟩ := executeMicro_of_done hdone s
        exact .inr hnone

theorem blitResults_blitterRun_stripped (hp : strippedProgram p = true)
    (hprog : s.blitter.prog = some p ∨ s.blitter.prog = none) (n : Nat) :
    blitResults (blitterRun n s) = blitResults s := by
  induction n generalizing s with
  | zero => rfl
  | succ n ih =>
    obtain ⟨hresults, hnext⟩ := blitterOne_stripped hp hprog
    exact (ih hnext).trans hresults

/-- The program set; the data do not depend on it. -/
def setProg (q : Option (List Word)) (s : State) : State := withBlitter (fun b => { b with prog := q }) s

theorem whenAction_setProg {f : State → State} {q : Option (List Word)} (hf : ∀ s, f (setProg q s) = setProg q (f s))
    (w : Word) (a : MicroAction) (s : State) :
    whenAction w a f (setProg q s) = setProg q (whenAction w a f s) := by
  unfold whenAction
  split
  · exact hf s
  · rfl

theorem writeD_setProg (q : Option (List Word)) (s : State) : writeD (setProg q s) = setProg q (writeD s) := by
  change (if s.blitter.lockD then _ else _) = setProg q (if s.blitter.lockD then _ else _)
  split <;> rfl

theorem blitRepeat_setProg (q : Option (List Word)) (s : State) :
    withBlitter blitRepeat (setProg q s) = setProg q (withBlitter blitRepeat s) := by
  have hrepeat (b : Blitter) : blitRepeat { b with prog := q } = { blitRepeat b with prog := q } := by
    unfold blitRepeat
    dsimp only
    split_ifs <;> rfl
  exact congrArg (fun b => withBlitter (fun _ => b) s) (hrepeat s.blitter)

theorem dataActions_setProg (q : Option (List Word)) (w : Word) (s : State) :
    dataActions w (setProg q s) = setProg q (dataActions w s) := by
  have hupdate {f : State → State} (hf : ∀ s, f (setProg q s) = setProg q (f s)) (a : MicroAction) (s : State) :
      whenAction w a f (setProg q s) = setProg q (whenAction w a f s) := whenAction_setProg hf w a s
  have hfetchA (s : State) : fetchA (setProg q s) = setProg q (fetchA s) := rfl
  have hfetchB (s : State) : fetchB (setProg q s) = setProg q (fetchB s) := rfl
  have hfetchC (s : State) : fetchC (setProg q s) = setProg q (fetchC s) := rfl
  have hholdA (s : State) : withBlitter holdA (setProg q s) = setProg q (withBlitter holdA s) := rfl
  have hholdB (s : State) : withBlitter holdB (setProg q s) = setProg q (withBlitter holdB s) := rfl
  have hholdD (fill : Bool) (s : State) :
      withBlitter (holdD fill) (setProg q s) = setProg q (withBlitter (holdD fill) s) := rfl
  unfold dataActions dataHolds dataTransfers
  simp only [hupdate (writeD_setProg q), hupdate hfetchA, hupdate hfetchB, hupdate hfetchC, hupdate hholdA,
    hupdate hholdB, hupdate (hholdD _), blitRepeat_setProg]
  split <;> rfl

theorem runData_setProg (q : Option (List Word)) (words : List Word) (n : Nat) (s : State) :
    runData words n (setProg q s) = setProg q (runData words n s) := by
  induction n generalizing s with
  | zero => rfl
  | succ n ih =>
    have hpc : (setProg q s).blitter.pc = s.blitter.pc := rfl
    unfold runData
    rw [hpc]
    split
    · rfl
    · rw [dataActions_setProg]
      split
      · rfl
      · exact ih _

/-! ### The launch of an area blit -/

theorem sizeW_pos (v : Word) : 1 ≤ sizeW v := by
  rw [sizeW_eq]
  split <;> omega

theorem sizeH_pos (v : Word) : 1 ≤ sizeH v := by
  rw [sizeH_eq]
  split <;> omega

/-- The program of a blit's shape, with the default table. -/
def areaProgram (b : Blitter) (fast : Bool) : List Word := defaultBltProgram.getD (launchIndex b fast) []

theorem blitProgram_areaProgram (b : Blitter) (fast : Bool) :
    blitProgram (bodyLength (shapeOf b.bltcon0)) (tailLength (shapeOf b.bltcon0)) (areaProgram b fast) = true :=
  blitProgram_default _ _ _

/-- The words of a blit of size `v`. -/
def areaLength (b : Blitter) (v : Word) : Nat :=
  bodyLength (shapeOf b.bltcon0) * (sizeW v * sizeH v) + tailLength (shapeOf b.bltcon0)

theorem exists_areaLength_eq_succ (b : Blitter) (v : Word) : ∃ n, areaLength b v = n + 1 := by
  obtain ⟨-, htail⟩ := blitProgram_pos (blitProgram_areaProgram b false)
  exact ⟨areaLength b v - 1, by unfold areaLength; omega⟩

/-- The program that a launch selects. -/
theorem programWords_launchIndex (hcfg : s.cfg.bltProgram = defaultBltProgram) (b : Blitter) (fast : Bool) :
    programWords s.cfg (launchIndex b fast) = areaProgram b fast := by
  rw [programWords, hcfg, areaProgram]

/-- An accurate blit runs its program from the start. -/
theorem blitRuns_launch_accurate {v : Word} (hcfg : s.cfg.bltProgram = defaultBltProgram)
    (harea : lineMode s.blitter.bltcon1 = false) (hacc : s.cfg.accuracy = .accurate) :
    BlitRuns (bodyLength (shapeOf s.blitter.bltcon0)) (tailLength (shapeOf s.blitter.bltcon0))
      (areaProgram s.blitter false) (areaLength s.blitter v) (launch v s).blitter ∧
    (launch v s).blitter.bltcon1 = s.blitter.bltcon1 := by
  have hprog : (selectProgram (launchIndex s.blitter false) (launched v s)).blitter.prog =
      some (areaProgram s.blitter false) := congrArg some (programWords_launchIndex hcfg s.blitter false)
  rw [launch_of_accurate harea hacc]
  exact ⟨blitRuns_start (blitProgram_areaProgram s.blitter false) hprog rfl rfl rfl rfl rfl (sizeW_pos v) (sizeH_pos v),
    rfl⟩

/-- The state in which the data of a fast blit end. -/
def fastData (v : Word) (s : State) : State :=
  runData (areaProgram s.blitter false) (blitFuel (launchCounters v s.blitter)) (launched v s)

theorem launch_fast_eq {v : Word} (hcfg : s.cfg.bltProgram = defaultBltProgram)
    (harea : lineMode s.blitter.bltcon1 = false) (hacc : s.cfg.accuracy = .fast) :
    launch v s = withBlitter (fun b => { b with
      x := sizeW v, y := sizeH v, pc := 0, prog := some (areaProgram s.blitter true) }) (fastData v s) := by
  have hdata : (fastData v s).cfg = s.cfg := (steady_runData _ _ _).cfg
  have hprog : programWords (fastData v s).cfg (launchIndex s.blitter true) = areaProgram s.blitter true := by
    rw [hdata, programWords_launchIndex hcfg]
  rw [launch_of_fast harea hacc, programWords_launchIndex hcfg, ← hprog]
  rfl

/-- A fast blit, its data done, runs the stripped program from the start. -/
theorem blitRuns_launch_fast {v : Word} (hcfg : s.cfg.bltProgram = defaultBltProgram)
    (harea : lineMode s.blitter.bltcon1 = false) (hacc : s.cfg.accuracy = .fast) :
    BlitRuns (bodyLength (shapeOf s.blitter.bltcon0)) (tailLength (shapeOf s.blitter.bltcon0))
      (areaProgram s.blitter true) (areaLength s.blitter v) (launch v s).blitter ∧
    (launch v s).blitter.bltcon1 = s.blitter.bltcon1 := by
  have hsetup : blitSetup (fastData v s).blitter = _ := blitSetup_runData _ _ _
  simp only [blitSetup, Prod.mk.injEq] at hsetup
  obtain ⟨hw, -, hcon1, -, hbusy⟩ := hsetup
  rw [launch_fast_eq hcfg harea hacc]
  exact ⟨blitRuns_start (blitProgram_areaProgram s.blitter true) rfl hbusy rfl hw rfl rfl (sizeW_pos v) (sizeH_pos v),
    hcon1⟩

/-- A bound on the words of a blit. -/
theorem areaLength_le_blitFuel (b : Blitter) (v : Word) : areaLength b v ≤ blitFuel (launchCounters v b) := by
  have hlengths : ∀ shape : BitVec 4, bodyLength shape ≤ 6 ∧ tailLength shape ≤ 6 := by decide
  obtain ⟨hbody, htail⟩ := hlengths (shapeOf b.bltcon0)
  exact Nat.add_le_add (Nat.mul_le_mul_right _ hbody) htail

/-- The configuration with another accuracy. -/
def withAccuracy (accuracy : Accuracy) (s : State) : State := { s with cfg := { s.cfg with accuracy := accuracy } }

/-- Both settings leave the same results (rule R351): the fast one's data are the accurate one's words, and its stripped
program leaves them. -/
theorem blitResults_launch (v : Word) (hcfg : s.cfg.bltProgram = defaultBltProgram)
    (harea : lineMode s.blitter.bltcon1 = false) :
    blitResults (blitterRun (areaLength s.blitter v) (launch v (withAccuracy .accurate s))) =
      blitResults (blitterRun (areaLength s.blitter v) (launch v (withAccuracy .fast s))) := by
  let program := areaProgram s.blitter false
  obtain ⟨n, hn⟩ := exists_areaLength_eq_succ s.blitter v
  have hfuel : n + 1 ≤ blitFuel (launchCounters v s.blitter) := hn ▸ areaLength_le_blitFuel s.blitter v
  obtain ⟨haccurate, -⟩ := blitRuns_launch_accurate (s := withAccuracy .accurate s) (v := v) hcfg harea rfl
  have hsame : SameBlit False (setProg (some program) (launched v (withAccuracy .fast s)))
      (launch v (withAccuracy .accurate s)) := by
    have hprogram : programWords s.cfg (launchIndex s.blitter false) = program :=
      programWords_launchIndex hcfg s.blitter false
    rw [launch_of_accurate (s := withAccuracy .accurate s) harea rfl, ← hprogram]
    exact ⟨⟨.accurate, rfl⟩, rfl, rfl, False.elim⟩
  have hfast := launch_fast_eq (s := withAccuracy .fast s) (v := v) hcfg harea rfl
  have hstripped : strippedProgram (areaProgram s.blitter true) = true := strippedProgram_default _ _
  have hrun := blitResults_blitterRun_stripped hstripped (s := launch v (withAccuracy .fast s))
    (.inl (by rw [hfast]; rfl)) (areaLength s.blitter v)
  replace haccurate : BlitRuns _ _ program (areaLength s.blitter v) (launch v (withAccuracy .accurate s)).blitter :=
    haccurate
  rw [hn] at haccurate
  calc blitResults (blitterRun (areaLength s.blitter v) (launch v (withAccuracy .accurate s)))
      = blitResults (runData program (blitFuel (launchCounters v s.blitter))
          (setProg (some program) (launched v (withAccuracy .fast s)))) := by
        rw [hn, haccurate.blitResults_runData (blitProgram_areaProgram s.blitter false) hsame hfuel]
    _ = blitResults (fastData v (withAccuracy .fast s)) := by
        rw [runData_setProg]
        rfl
    _ = blitResults (launch v (withAccuracy .fast s)) := by
        rw [hfast]
        rfl
    _ = _ := hrun.symm

end Sys2Proof.Machine

namespace Sys2Proof.Blitter

open Sys2Proof.Machine

/-- Settles O51: the program of the default table has the body and the tail of its shape. -/
theorem blitLengthLaw : Obligations.BlitLengthLaw := by
  intro s v hcfg hacc harea t n
  obtain ⟨hruns, -⟩ := blitRuns_launch_accurate (v := v) hcfg harea hacc
  have hn : n = areaLength s.blitter v := by
    have ht : t = _ := launch_of_accurate harea hacc
    simp only [n, ht]
    rfl
  obtain ⟨m, hm⟩ := exists_areaLength_eq_succ s.blitter v
  rw [hm] at hruns hn
  obtain ⟨hbusy, hends, hirq, -⟩ := hruns.course (blitProgram_areaProgram s.blitter false)
  rw [hn]
  exact ⟨fun k hk => hbusy k (Nat.le_of_lt_succ hk), hends, hirq⟩

/-- Settles O52: both settings run a program of the shape's body and tail, and leave the same results; the fill carry is
in both that of the beginning of a row. -/
theorem fastEqualsAccurate : Obligations.FastEqualsAccurate := by
  intro s v hcfg harea accurate fast n a f
  obtain ⟨haccurate, haccurateCon1⟩ := blitRuns_launch_accurate (s := withAccuracy .accurate s) (v := v) hcfg harea rfl
  obtain ⟨hfast, hfastCon1⟩ := blitRuns_launch_fast (s := withAccuracy .fast s) (v := v) hcfg harea rfl
  have hn : n = areaLength s.blitter v := by
    have hlaunch : accurate = _ := launch_of_accurate (s := withAccuracy .accurate s) harea rfl
    simp only [n, hlaunch]
    rfl
  have hresults : blitResults a = blitResults f := by
    simp only [a, f, hn]
    exact blitResults_launch v hcfg harea
  simp only [blitResults, Prod.mk.injEq] at hresults
  obtain ⟨hmem, hapt, hbpt, hcpt, hdpt, hzero, haold, hbold, hdhold⟩ := hresults
  obtain ⟨m, hm⟩ := exists_areaLength_eq_succ s.blitter v
  replace hn : n = m + 1 := hn.trans hm
  obtain ⟨hbusyA, hendA, -, hcarryA⟩ := (hm ▸ haccurate).course (blitProgram_areaProgram s.blitter false)
  obtain ⟨hbusyF, hendF, -, hcarryF⟩ := (hm ▸ hfast).course (blitProgram_areaProgram s.blitter true)
  rw [haccurateCon1, ← hn] at hcarryA
  rw [hfastCon1, ← hn] at hcarryF
  rw [← hn] at hendA hendF
  refine ⟨fun k hk => ?_, hendA, hendF, hmem, hapt, hbpt, hcpt, hdpt, hzero, haold, hbold, hdhold,
    hcarryA.trans hcarryF.symm⟩
  have hle : k ≤ m := by omega
  exact ⟨hbusyA k hle, hbusyF k hle⟩

end Sys2Proof.Blitter
end

section
/-! A slot in which the Blitter acts: the word of its event is that of the slot's beginning, unless a launch has cancelled
the event (rules R132, R209, R301, R302, R318, R322). -/

namespace Sys2Proof.Machine

variable {s t u : State}

/-! ### The Blitter's word over the operations of a slot -/

/-- Neither agent's event becomes due, and where the Blitter's still is, its word is as it was. -/
structure WordKept (s t : State) : Prop where
  copper  : eventDue slotCopper t = true → eventDue slotCopper s = true
  blitter : eventDue slotBlitter t = true → eventDue slotBlitter s = true ∧ blitterInst t.blitter = blitterInst s.blitter

/-- The parts of the state that `WordKept` speaks of. -/
def wordView (s : State) : Events × BitVec 64 × Option (List Word) × Nat :=
  (s.events, s.now, s.blitter.prog, s.blitter.pc)

theorem WordKept.of_view (h : wordView t = wordView s) : WordKept s t := by
  simp only [wordView, Prod.mk.injEq] at h
  obtain ⟨hevents, hnow, hprog, hpc⟩ := h
  have hdue (i : Fin 13) : eventDue i t = eventDue i s := eventDue_congr (by rw [hevents]) hnow
  exact ⟨fun hc => hdue _ ▸ hc, fun hb => ⟨hdue _ ▸ hb, by rw [blitterInst, blitterInst, hprog, hpc]⟩⟩

theorem WordKept.refl (s : State) : WordKept s s := .of_view rfl

theorem WordKept.after (k : WordKept t u) (h : WordKept s t) : WordKept s u where
  copper hc := h.copper (k.copper hc)
  blitter hb := by
    obtain ⟨hdue, hinst⟩ := k.blitter hb
    obtain ⟨hdue', hinst'⟩ := h.blitter hdue
    exact ⟨hdue', hinst.trans hinst'⟩

/-- A further change that the word does not see. -/
theorem WordKept.view (h : WordKept s t) (k : wordView u = wordView t) : WordKept s u := .after (.of_view k) h

theorem WordKept.ite {c : Prop} [Decidable c] (h : WordKept s t) (k : WordKept s u) :
    WordKept s (if c then t else u) := by
  split
  · exact h
  · exact k

/-- The same for what a meaning answers, where it is a next state. -/
def WordKeptResult (s : State) (r : Result) : Prop := ∀ t, r = .next t → WordKept s t

theorem WordKeptResult.next (h : WordKept s t) : WordKeptResult s (.next t) := by
  rintro _ ⟨⟩
  exact h

theorem WordKeptResult.andThen {r : Result} {f : State → Result} (h : WordKeptResult s r)
    (k : ∀ u, WordKeptResult u (f u)) : WordKeptResult s (andThen r f) := by
  intro t ht
  obtain ⟨u, hu, hf⟩ := (andThen_eq_next _ _ _).1 ht
  exact .after (k u t hf) (h u hu)

theorem WordKeptResult.after {r : Result} (k : WordKeptResult t r) (h : WordKept s t) : WordKeptResult s r :=
  fun u hu => .after (k u hu) h

/-! From here on `wordKept_f` says that the operation `f` keeps the word in this sense. -/

theorem wordKept_scheduleData {i : Fin 13} (hcopper : i ≠ slotCopper) (hblitter : i ≠ slotBlitter) (trigger : BitVec 64)
    (e : EventId) (data : BitVec 64) (s : State) : WordKept s (scheduleData i trigger e data s) := by
  have hdue {j : Fin 13} (hj : i ≠ j) : eventDue j (scheduleData i trigger e data s) = eventDue j s :=
    eventDue_congr (Events.put_slots_other _ _ _ _ hj) rfl
  exact ⟨fun hc => hdue hcopper ▸ hc, fun hb => ⟨hdue hblitter ▸ hb, rfl⟩⟩

theorem wordKept_cancel (i : Fin 13) (s : State) : WordKept s (cancel i s) := by
  have hdue {j : Fin 13} (h : eventDue j (cancel i s) = true) : eventDue j s = true := by
    by_cases hj : i = j
    · subst hj
      exact absurd (eventDue_cancel i s) (ne_false_of_eq_true h)
    · rwa [eventDue_cancel_other i j s hj] at h
  exact ⟨hdue, fun hb => ⟨hdue hb, rfl⟩⟩

/-- A launch cancels the Blitter's event (rules R301, R302). -/
theorem wordKept_launch (v : Word) (s : State) : WordKept s (launch v s) := by
  obtain ⟨chip, line, b, h⟩ := launch_changes v s
  have hdue (i : Fin 13) : eventDue i (launch v s) = eventDue i (cancel slotBlitter s) := by
    rw [h]
    rfl
  refine ⟨fun hc => (wordKept_cancel slotBlitter s).copper (hdue _ ▸ hc), fun hb => ?_⟩
  rw [hdue, eventDue_cancel] at hb
  exact absurd hb Bool.false_ne_true

/-! ### The custom registers and the Copper -/

theorem wordKept_applySystem (off : Nat) (v : Word) (s : State) : WordKept s (applySystem off v s) := by
  unfold applySystem
  split_ifs <;> exact .of_view rfl

theorem wordKept_blitter_ite {c : Prop} [Decidable c] {a b : Blitter} (ha : WordKept s { s with blitter := a })
    (hb : WordKept s { s with blitter := b }) : WordKept s { s with blitter := if c then a else b } := by
  split
  · exact ha
  · exact hb

theorem wordKept_writeBlitter (off : Nat) (v : Word) (s : State) :
    WordKept s (withBlitter (writeBlitter s.cfg off v) s) := by
  change WordKept s { s with blitter := writeBlitter s.cfg off v s.blitter }
  unfold writeBlitter
  iterate 19 refine wordKept_blitter_ite (.of_view rfl) ?_
  exact .of_view rfl

theorem wordKept_applyControl (off : Nat) (v : Word) (s : State) : WordKept s (applyControl off v s) := by
  unfold applyControl
  iterate 14 refine .ite (.of_view rfl) ?_
  exact .refl s

theorem wordKept_applyBitplane (off : Nat) (v : Word) (s : State) : WordKept s (applyBitplane off v s) := by
  unfold applyBitplane
  split_ifs <;> exact .of_view rfl

theorem wordKept_writeSprctl (n : Fin 8) (v : Word) (s : State) : WordKept s (writeSprctl n v s) := by
  have hattach (u : State) : WordKept u (writeAttach n v u) := .ite (.of_view rfl) (.refl u)
  unfold writeSprctl
  refine .view (t := writeAttach n v (withSprite n _ s)) ?_ rfl
  exact .after (hattach _) (.of_view rfl)

theorem wordKept_applySprite (off : Nat) (v : Word) (s : State) : WordKept s (applySprite off v s) := by
  unfold applySprite
  split_ifs
  · exact .of_view rfl
  · exact wordKept_writeSprctl _ v s
  · exact .of_view rfl
  · exact .of_view rfl

theorem wordKept_applyReg (off : Nat) (v : Word) (s : State) : WordKept s (applyReg off v s) := by
  unfold applyReg
  split_ifs
  · exact wordKept_applySystem off v s
  · exact wordKept_launch v s
  · exact wordKept_writeBlitter off v s
  · exact wordKept_applyControl off v s
  · exact wordKept_applyBitplane off v s
  · exact .of_view rfl
  · exact wordKept_applySprite off v s
  · exact .of_view rfl

theorem wordKept_registerWrite (off : Nat) (v : Word) (s : State) : WordKept s (registerWrite off v s) := by
  obtain h | h | h | h | h := registerWrite_cases off v s <;> rw [h]
  · exact .refl s
  · exact .of_view rfl
  · exact .of_view rfl
  · exact .after (wordKept_scheduleData (by decide) (by decide) _ _ _ _) (.of_view rfl)
  · exact wordKept_applyReg off v s

theorem wordKept_registerRead (off : Nat) (s : State) : WordKept s (registerRead off s) := by
  have heffect : WordKept s (readEffect off s) := .ite (.of_view rfl) (.refl s)
  have hback : WordKept s (setReadData ((busQuirk s).setWidth 32) (registerWrite off (busQuirk s) s)) :=
    .view (wordKept_registerWrite off _ s) rfl
  unfold registerRead
  split
  · exact .view heffect rfl
  · exact .of_view rfl
  · exact .of_view rfl
  all_goals exact hback

theorem wordKept_exec_decodeRegister (off : RegOff) (op : RegOp) (s : State) :
    WordKeptResult s (exec (decodeRegister off op) s) := by
  rw [exec_decodeRegister]
  cases op with
  | read => exact .next (wordKept_registerRead _ s)
  | write v => exact .next (wordKept_registerWrite _ v s)

theorem wordKept_exec_decodeCopper (ir1 ir2 : Word) (s : State) :
    WordKeptResult s (exec (decodeCopper ir1 ir2) s) := by
  unfold decodeCopper
  split_ifs
  · have hwrite := wordKept_registerWrite (moveDest (ir1.extractLsb' 1 8)) ir2 s
    change WordKeptResult s (execCopperMove _ _ s)
    unfold execCopperMove
    split
    · exact .next (.of_view rfl)
    · exact .next (.ite (.view hwrite rfl) hwrite)
  · exact .next (.of_view rfl)
  · exact .next (.of_view rfl)

theorem wordKept_copperFetch (s : State) : WordKept s (copperFetch s) := by
  unfold copperFetch
  dsimp only
  split <;> exact .of_view rfl

theorem wordKept_copperStep (o : BusOwner) (s : State) : WordKeptResult s (copperStep o s) := by
  have hfetch : WordKeptResult s (.next (if o = .copper then copperFetch s else s)) :=
    .next (.ite (wordKept_copperFetch s) (.refl s))
  unfold copperStep
  split
  · exact hfetch
  · exact hfetch
  · exact wordKept_exec_decodeCopper _ _ s
  · exact .next (.ite (.of_view rfl) (.refl s))
  · exact .next (.of_view rfl)
  · exact .next (.refl s)

/-- The Copper's event. -/
theorem wordKept_serveEvent_copper (o : BusOwner) (s : State) : WordKeptResult s (serveEvent o slotCopper s) := by
  unfold serveEvent
  split
  · exact (wordKept_copperStep o _).after (wordKept_cancel slotCopper s)
  · exact .next (.refl s)

/-! ### The CPU port -/

theorem wordKept_storeByte (r : Region) (a : Addr) (v : Byte) (s : State) : WordKept s (storeByte r a v s) := by
  cases r
  case wom => exact .ite (.refl s) (.of_view rfl)
  all_goals exact .of_view rfl

theorem wordKept_read16 (a : Addr) (s : State) : WordKeptResult s (read16 a s) := by
  unfold read16
  split
  · exact wordKept_exec_decodeRegister _ _ s
  all_goals exact .next (.of_view rfl)

theorem wordKept_read8 (a : Addr) (s : State) : WordKeptResult s (read8 a s) := by
  unfold read8
  split
  · exact (wordKept_exec_decodeRegister _ _ s).andThen fun u => .next (.of_view rfl)
  all_goals exact .next (.of_view rfl)

theorem wordKept_write16 (a : Addr) (v : Word) (s : State) : WordKeptResult s (write16 a v s) := by
  unfold write16
  split
  · exact wordKept_exec_decodeRegister _ _ s
  iterate 4 exact .next (.of_view rfl)
  all_goals exact .next (.after (wordKept_storeByte _ _ _ _) (wordKept_storeByte _ _ _ s))

theorem wordKept_write8 (a : Addr) (v : Byte) (s : State) : WordKeptResult s (write8 a v s) := by
  unfold write8
  split
  · exact wordKept_exec_decodeRegister _ _ s
  iterate 4 exact .next (.of_view rfl)
  all_goals exact .next (wordKept_storeByte _ _ _ s)

theorem wordKept_flagOdd (a : Addr) (width : Nat) (write : Bool) (s : State) : WordKept s (flagOdd a width write s) :=
  .ite (.of_view rfl) (.refl s)

theorem wordKept_accessTransfer (op : CpuOp) (a : Addr) (s : State) : WordKeptResult s (accessTransfer op a s) := by
  cases op with
  | read8 => exact wordKept_read8 a s
  | read16 => exact (wordKept_read16 _ _).after (wordKept_flagOdd a 2 false s)
  | read32 => exact (wordKept_read16 _ _).after (wordKept_flagOdd a 4 false s)
  | write8 v => exact wordKept_write8 a v s
  | write16 v => exact (wordKept_write16 _ _ _).after (wordKept_flagOdd a 2 true s)
  | write32 v => exact (wordKept_write16 _ _ _).after (wordKept_flagOdd a 4 true s)
  | readLow hi => exact (wordKept_read16 _ s).andThen fun u => .next (.of_view rfl)

theorem wordKept_finishAccess (acc : CpuAccess) (rest : List CpuAccess) (cost : Nat) (later : List CpuInstr)
    (s : State) : WordKept s (finishAccess acc rest cost later s) := by
  obtain ⟨queue, clock, h⟩ := continueInstr_changes (secondHalf acc.op (acc.addr.setWidth 24) s ++ rest) cost later
    { s with bus := { s.bus with reqCPU := false, cpuClock := s.now + 2#64 } }
  unfold finishAccess
  rw [h]
  exact .of_view rfl

theorem wordKept_cpuTransfer (s : State) : WordKeptResult s (cpuTransfer s) := by
  unfold cpuTransfer
  split
  · exact (wordKept_accessTransfer _ _ s).andThen fun u => .next (.after (wordKept_finishAccess _ _ _ _ _) (.of_view rfl))
  · exact .next (.of_view rfl)
  · exact .next (.of_view rfl)

end Sys2Proof.Machine
end

section
/-! A step in which the Blitter acts (rules R132, R159, R318, R322, R323): the slot's owner makes its transfer, the Copper
its step, and then the Blitter's event runs the word. -/

namespace Sys2Proof.Machine

variable {s t u : State} {o : BusOwner} {w : Word} {i : Instr}

/-! ### The owner's transfer -/

/-- The Blitter is as it was, and its event is due as before. -/
structure BlitterUntouched (s t : State) : Prop where
  blitter : t.blitter = s.blitter
  due     : eventDue slotBlitter t = eventDue slotBlitter s

theorem BlitterUntouched.refl (s : State) : BlitterUntouched s s := ⟨rfl, rfl⟩

theorem BlitterUntouched.after (k : BlitterUntouched t u) (h : BlitterUntouched s t) : BlitterUntouched s u :=
  ⟨k.blitter.trans h.blitter, k.due.trans h.due⟩

theorem BlitterUntouched.ite {c : Prop} [Decidable c] (h : BlitterUntouched s t) (k : BlitterUntouched s u) :
    BlitterUntouched s (if c then t else u) := by
  split
  · exact h
  · exact k

/-- Where neither agent is touched, the word is kept. -/
theorem wordKept_of_untouched (hcopper : CopperUntouched s t) (hblitter : BlitterUntouched s t) : WordKept s t where
  copper hc := hcopper.due ▸ hc
  blitter hb := ⟨hblitter.due ▸ hb, by rw [hblitter.blitter]⟩

theorem blitterUntouched_scheduleData {j : Fin 13} (hj : j ≠ slotBlitter) (trigger : BitVec 64) (e : EventId)
    (data : BitVec 64) (s : State) : BlitterUntouched s (scheduleData j trigger e data s) :=
  ⟨rfl, eventDue_congr (Events.put_slots_other _ _ _ _ hj) rfl⟩

theorem blitterUntouched_registerWrite {off : Nat} (hclass : regClass off = .writable) (hdelayed : isDelayed off = true)
    (v : Word) (s : State) : BlitterUntouched s (registerWrite off v s) := by
  rw [registerWrite_of_delayed hclass hdelayed]
  exact .after (blitterUntouched_scheduleData (by decide) _ _ _ _) ⟨rfl, rfl⟩

theorem blitterUntouched_spriteTransfer (n : Fin 8) (s : State) : BlitterUntouched s (spriteTransfer n s) := by
  obtain ⟨hclass, hdelayed⟩ := spriteTarget_delayed n s.sprites[n].dma (s.cfg.slotMap.sprite[n].1 == s.beam.h.toNat)
  exact .after (blitterUntouched_registerWrite hclass hdelayed _ _) ⟨rfl, rfl⟩

theorem blitterUntouched_bitplaneTransfer (p : Fin 6) (s : State) : BlitterUntouched s (bitplaneTransfer p s) := by
  obtain ⟨hclass, hdelayed⟩ := bitplaneTarget_delayed p
  exact .after (blitterUntouched_registerWrite hclass hdelayed _ _) ⟨rfl, rfl⟩

theorem blitterUntouched_bitplaneStep (o : BusOwner) (s : State) : BlitterUntouched s (bitplaneStep o s) := by
  unfold bitplaneStep
  split
  · exact .ite (blitterUntouched_bitplaneTransfer _ s) (.refl s)
  · exact .refl s

theorem blitterUntouched_serveEvent_bitplane (o : BusOwner) (s : State) :
    ∃ u, serveEvent o slotBitplane s = .next u ∧ BlitterUntouched s u := by
  unfold serveEvent
  split
  · exact ⟨_, rfl, .after (blitterUntouched_bitplaneStep o _) ⟨rfl, eventDue_cancel_other _ _ _ (by decide)⟩⟩
  · exact ⟨s, rfl, .refl s⟩

/-- The transfer of an owner other than the Copper, the Blitter and the CPU leaves the Blitter alone. -/
theorem ownerTransfer_blitterUntouched (hcopper : o ≠ .copper) (hblitter : o ≠ .blitter) (hcpu : o ≠ .cpu) (s : State) :
    ∃ u, ownerTransfer o s = .next u ∧ BlitterUntouched s u := by
  cases o with
  | none => exact ⟨s, rfl, .refl s⟩
  | refresh => exact ⟨_, rfl, rfl, rfl⟩
  | disk => exact ⟨_, rfl, .ite ⟨rfl, rfl⟩ ⟨rfl, rfl⟩⟩
  | audio =>
    rw [ownerTransfer]
    split
    · exact ⟨_, rfl, rfl, rfl⟩
    · exact ⟨s, rfl, .refl s⟩
  | sprite =>
    rw [ownerTransfer]
    split
    · exact ⟨_, rfl, blitterUntouched_spriteTransfer _ s⟩
    · exact ⟨s, rfl, .refl s⟩
  | bitplane => exact blitterUntouched_serveEvent_bitplane .bitplane s
  | copper => exact absurd rfl hcopper
  | blitter => exact absurd rfl hblitter
  | cpu => exact absurd rfl hcpu

/-- The transfer of an owner other than the Blitter keeps the Blitter's word, or a launch drops it. -/
theorem wordKept_ownerTransfer (hblitter : o ≠ .blitter) (s : State) : WordKeptResult s (ownerTransfer o s) := by
  by_cases hcopper : o = .copper
  · rw [hcopper]
    exact wordKept_serveEvent_copper .copper s
  by_cases hcpu : o = .cpu
  · rw [hcpu]
    exact wordKept_cpuTransfer s
  obtain ⟨u, htransfer, hkept⟩ := ownerTransfer_blitterUntouched hcopper hblitter hcpu s
  obtain ⟨u', htransfer', hkept'⟩ := ownerTransfer_copperUntouched hcopper hblitter hcpu s
  obtain rfl : u = u' := Host.Outcome.next.inj (htransfer.symm.trans htransfer')
  rw [htransfer]
  exact .next (wordKept_of_untouched hkept' hkept)

/-! ### The transfer of the Blitter's word -/

theorem eventDue_microTransfer (j : Fin 13) (w : Word) (s : State) :
    eventDue j (microTransfer w s) = eventDue j s := by
  obtain ⟨chip, line, b, h⟩ := blitterOnly_microTransfer w s
  rw [h]
  rfl

theorem blitterInst_microTransfer (w : Word) (s : State) :
    blitterInst (microTransfer w s).blitter = blitterInst s.blitter := by
  have hcontrol := (blitControl_dataTransfers w (slotRecord w s)).trans (congrArg blitControl (slotRecord_blitter w s))
  simp only [blitControl, blitSetup, Prod.mk.injEq] at hcontrol
  obtain ⟨-, -, hpc, -, -, -, -, hprog, -⟩ := hcontrol
  change blitterInst (dataTransfers w (slotRecord w s)).blitter = _
  rw [blitterInst, blitterInst, hpc, hprog]

theorem wordKept_microTransfer (w : Word) (s : State) : WordKept s (microTransfer w s) where
  copper hc := eventDue_microTransfer _ w s ▸ hc
  blitter hb := ⟨eventDue_microTransfer _ w s ▸ hb, blitterInst_microTransfer w s⟩

/-- A word's transfer and the cancellation of an event do not meet. -/
theorem microTransfer_cancel (hwf : microWellFormed w = true) (j : Fin 13) (s : State) :
    microTransfer w (cancel j s) = cancel j (microTransfer w s) := by
  rw [microTransfer_eq hwf, microTransfer_eq hwf]
  rfl

/-! ### Arbitration (rules R210, R215, R322) -/

@[simp] theorem arbitrate_blitter (s : State) : (arbitrate s).blitter = s.blitter := by
  unfold arbitrate
  dsimp only
  split_ifs <;> rfl

/-- Arbitration makes the Blitter's event due where the Blitter owns the slot or needs no bus. -/
theorem eventDue_blitter_arbitrate (h : ownerOf s = .blitter ∨ blitterInternal s = true) :
    eventDue slotBlitter (arbitrate s) = true := by
  have hacts : (ownerOf s = .blitter || blitterInternal s) = true := by simpa using h
  have hscheduled {v : State} (hnow : v.now = s.now) :
      eventDue slotBlitter (scheduleAbs slotBlitter s.now .bltStep v) = true :=
    hnow ▸ eventDue_scheduleAbs_now slotBlitter .bltStep v (by decide)
  unfold arbitrate
  dsimp only
  rw [if_pos hacts]
  refine (BlitterUntouched.ite (blitterUntouched_scheduleData (by decide) _ _ _ _) (.refl _)).due.trans (hscheduled ?_)
  split_ifs <;> rfl

/-- Outside the Copper's slots arbitration leaves its event. -/
theorem eventDue_copper_arbitrate (h : copperSlot s = false) :
    eventDue slotCopper (arbitrate s) = eventDue slotCopper s := by
  have hother {j : Fin 13} (hj : j ≠ slotCopper) (e : EventId) (c : Prop) [Decidable c] (v : State) :
      CopperUntouched v (if c then scheduleAbs j s.now e v else v) :=
    .ite (copperUntouched_scheduleData hj _ _ _ v) (.refl v)
  have hcopper : ¬ copperSlot s = true := ne_true_of_eq_false h
  unfold arbitrate
  dsimp only
  rw [if_neg hcopper]
  exact (hother (by decide) _ _ _).due.trans (hother (by decide) _ _ _).due

/-- A word that holds no bus action needs no bus. -/
theorem needsBus_eq_false (h : w &&& 0x003E#16 = 0#16) : needsBus w = false := by
  have hbit (j : Nat) (hj : (0x003E#16).getLsbD j = true) : w.getLsbD j = false := by
    have := congrArg (·.getLsbD j) h
    simpa [hj] using this
  simp only [needsBus, hasAction, MicroAction.bitIndex, Bool.or_eq_false_iff]
  exact ⟨⟨⟨⟨hbit _ rfl, hbit _ rfl⟩, hbit _ rfl⟩, hbit _ rfl⟩, hbit _ rfl⟩

theorem blitterInternal_of_word (hinst : blitterInst s.blitter = some w) (hslot : blitterSlot s = true)
    (hbus : needsBus w = false) (hidle : w.getLsbD 0 = true → busIsFree s = true) : blitterInternal s = true := by
  have hfree : (!hasAction w .busidle || busIsFree s) = true := by
    rw [Bool.or_eq_true, Bool.not_eq_true', ← Bool.not_eq_true, ← imp_iff_not_or]
    exact hidle
  simp only [blitterInternal, hinst, hslot, hbus, hfree, Bool.not_false, Bool.and_self]

/-- A word that needs no bus does not request the slot. -/
theorem ownerOf_ne_blitter (h : blitterInternal s = true) : ownerOf s ≠ .blitter := by
  refine ownerOf_ne (o := .blitter) (Bool.eq_false_iff.2 fun hrequest => ?_)
  obtain ⟨w, hinst, -, hbus, -⟩ := reqBlitter_iff_inst.1 hrequest
  simp [blitterInternal, hinst, hbus] at h

/-! ### The slot's events, one after the other -/

/-- Where two continuations agree on the state that comes, so do the sequences. -/
theorem andThen_congr {r : Result} {f g : State → Result} (h : ∀ u, r = .next u → f u = g u) :
    andThen r f = andThen r g := by
  cases r with
  | next u => exact h u rfl
  | fault e => rfl
  | refused e => rfl

theorem andThen_assoc (r : Result) (f g : State → Result) :
    andThen (andThen r f) g = andThen r (fun u => andThen (f u) g) := by
  cases r <;> rfl

/-- The events after the Blitter's, and the slot's end (rules R132, R209). -/
def afterBlitter (o : BusOwner) (s : State) : Result :=
  andThen (serveEvents o [5, 6, 7, 8, 9, 10, 11, 12] s) (fun u => .next (finishSlot u))

/-- A slot from arbitration on: the owner's transfer, the Copper's event, the Blitter's, the later ones. -/
theorem busSlot_eq (t : State) :
    busSlot t =
      andThen (ownerTransfer (ownerOf t) (arbitrate t)) (fun u =>
        andThen (serveEvent (ownerOf t) slotCopper u) (fun v =>
          andThen (serveEvent (ownerOf t) slotBlitter v) (afterBlitter (ownerOf t)))) := by
  rw [busSlot, transfers, andThen_assoc]
  refine andThen_congr fun u _ => ?_
  rw [serveEvents_lateSlots, andThen_assoc]
  refine andThen_congr fun v _ => ?_
  change andThen (andThen (serveEvent _ slotBlitter v) _) _ = _
  rw [andThen_assoc]
  rfl

/-- With nothing due before arbitration and a CPU that waits or is idle, a step is its slot from arbitration on. -/
theorem step_eq_busSlot (hon : s.powered = true) (hinputs : s.ext.inputs = []) (hearly : NoEarlyEvent s)
    (hcpu : s.bus.reqCPU = true ∨ s.cpu.queue = []) : step s = busSlot (windowTick s) := by
  have hissue : cpuIssue s = .next s := by
    cases hreq : s.bus.reqCPU with
    | true => exact cpuIssue_of_waiting hreq
    | false => exact cpuIssue_of_idle (hcpu.resolve_left (by rw [hreq]; decide)) hreq
  rw [step_eq_of_noEarlyEvent hon hinputs hearly, hissue, andThen_next]

/-! ### The Blitter's event -/

/-- The Blitter's event runs the word: what remains of it where its transfer is made, else the whole. -/
theorem serveEvent_blitter_of_word (hdue : eventDue slotBlitter s = true) (hinst : blitterInst s.blitter = some w)
    (hdecode : decodeMicro w = .ok i) (o : BusOwner) :
    serveEvent o slotBlitter s =
      if o = .blitter then .next (microActions w (cancel slotBlitter s)) else exec i (cancel slotBlitter s) := by
  rw [serveEvent_due o _ s hdue]
  change withMicro _ (cancel slotBlitter s) = _
  have hinst' : blitterInst (cancel slotBlitter s).blitter = some w := hinst
  simp only [withMicro, hinst', hdecode]

/-- In a slot that the Blitter owns, the word's other actions follow the Copper's step. -/
theorem busSlot_of_granted (howner : ownerOf t = .blitter) (hinst : blitterInst t.blitter = some w)
    (hdecode : decodeMicro w = .ok i) :
    busSlot t =
      andThen (serveEvent (ownerOf t) slotCopper (microTransfer w (arbitrate t))) (fun u =>
        afterBlitter (ownerOf t)
          (if eventDue slotBlitter u then microActions w (cancel slotBlitter u) else u)) := by
  have hword : blitterInst (arbitrate t).blitter = some w := by rw [arbitrate_blitter, hinst]
  have htransfer : ownerTransfer .blitter (arbitrate t) = .next (microTransfer w (arbitrate t)) := by
    simp only [ownerTransfer, blitterTransfer, withMicro, hword, hdecode]
  rw [busSlot_eq, howner, htransfer, andThen_next]
  refine andThen_congr fun u hu => ?_
  cases hdue : eventDue slotBlitter u with
  | false => rw [serveEvent_idle _ _ _ hdue]; rfl
  | true =>
    have hkept := (wordKept_serveEvent_copper .blitter _ u hu).after (wordKept_microTransfer w (arbitrate t))
    obtain ⟨-, hinst'⟩ := hkept.blitter hdue
    rw [serveEvent_blitter_of_word hdue (hinst'.trans hword) hdecode]
    rfl

/-- Where the Copper has nothing to do, that is the micro-instruction run whole. -/
theorem busSlot_of_granted_alone (howner : ownerOf t = .blitter) (hinst : blitterInst t.blitter = some w)
    (hdecode : decodeMicro w = .ok i) (hcopper : eventDue slotCopper (arbitrate t) = false) :
    busSlot t = andThen (exec i (cancel slotBlitter (arbitrate t))) (afterBlitter (ownerOf t)) := by
  obtain ⟨hwf, -⟩ := decodeMicro_eq_ok hdecode
  rw [busSlot_of_granted howner hinst hdecode, serveEvent_idle _ _ _ (by rw [eventDue_microTransfer, hcopper]),
    andThen_next, eventDue_microTransfer, eventDue_blitter_arbitrate (.inl howner), if_pos rfl,
    exec_of_decodeMicro hdecode, andThen_next, executeMicro, microTransfer_cancel hwf]

/-- A word that needs no bus is run after the owner's transfer and the Copper's step. -/
theorem busSlot_of_internal (hinternal : blitterInternal t = true) (hinst : blitterInst t.blitter = some w)
    (hdecode : decodeMicro w = .ok i) :
    busSlot t =
      andThen (ownerTransfer (ownerOf t) (arbitrate t)) (fun u =>
        andThen (serveEvent (ownerOf t) slotCopper u) (fun v =>
          andThen (if eventDue slotBlitter v then exec i (cancel slotBlitter v) else .next v)
            (afterBlitter (ownerOf t)))) := by
  have howner := ownerOf_ne_blitter hinternal
  rw [busSlot_eq]
  refine andThen_congr fun u hu => andThen_congr fun v hv => congrArg (andThen · _) ?_
  cases hdue : eventDue slotBlitter v with
  | false => exact serveEvent_idle _ _ _ hdue
  | true =>
    have hkept := (wordKept_serveEvent_copper _ u v hv).after (wordKept_ownerTransfer howner _ u hu)
    obtain ⟨-, hinst'⟩ := hkept.blitter hdue
    rw [arbitrate_blitter] at hinst'
    rw [serveEvent_blitter_of_word hdue (hinst'.trans hinst) hdecode, if_neg howner, if_pos rfl]

/-- Where the Copper has nothing to do and no launch drops the word, it is run next. -/
theorem busSlot_of_internal_alone (hinternal : blitterInternal t = true) (hinst : blitterInst t.blitter = some w)
    (hdecode : decodeMicro w = .ok i) (hcopper : eventDue slotCopper (arbitrate t) = false)
    (htransfer : ownerTransfer (ownerOf t) (arbitrate t) = .next u) (hblitter : eventDue slotBlitter u = true) :
    busSlot t = andThen (exec i (cancel slotBlitter u)) (afterBlitter (ownerOf t)) := by
  have hkept := wordKept_ownerTransfer (ownerOf_ne_blitter hinternal) (arbitrate t) u htransfer
  have hnone : eventDue slotCopper u = false :=
    Bool.eq_false_iff.2 fun hdue => ne_true_of_eq_false hcopper (hkept.copper hdue)
  rw [busSlot_of_internal hinternal hinst hdecode, htransfer, andThen_next, serveEvent_idle _ _ _ hnone, andThen_next,
    hblitter, if_pos rfl]

/-- An owner other than the Copper and the CPU leaves the Blitter its event. -/
theorem ownerTransfer_of_internal (hinternal : blitterInternal t = true) (hcopper : copperSlot t = false)
    (hcpu : ownerOf t ≠ .cpu) :
    ∃ u, ownerTransfer (ownerOf t) (arbitrate t) = .next u ∧ BlitterUntouched (arbitrate t) u := by
  have hnot : ownerOf t ≠ .copper := ownerOf_ne (by simp [busRequest, reqCopper, hcopper])
  exact ownerTransfer_blitterUntouched hnot (ownerOf_ne_blitter hinternal) hcpu (arbitrate t)

end Sys2Proof.Machine

namespace Sys2Proof.Blitter

open Sys2Proof.Machine

/-- Settles O6: the step is its slot from arbitration on, whose Blitter event runs the word unless a launch has dropped
it. -/
theorem stepRunsMicroInstruction : Obligations.StepRunsMicroInstruction := by
  rintro s t w i hon hinputs hearly hcpu ht hinst hdecode o later copperIdle internal
  have hstep : step s = busSlot t := ht ▸ step_eq_busSlot hon hinputs hearly hcpu
  have halone (h : copperIdle) : eventDue slotCopper (arbitrate t) = false := by
    obtain ⟨hslot, hidle⟩ := h
    rw [eventDue_copper_arbitrate hslot, hidle]
  have hinternal (h : internal) : blitterInternal t = true := by
    obtain ⟨hbusy, hmaster, hblitter, hslot, hbus, hidle⟩ := h
    refine blitterInternal_of_word hinst (blitterSlot_iff.2 ⟨?_, hbusy, hslot⟩) (needsBus_eq_false hbus) hidle
    rw [dmaOn, hmaster, hblitter, Bool.and_self]
  rw [hstep]
  refine ⟨exec_of_decodeMicro hdecode, fun howner => busSlot_of_granted howner hinst hdecode,
    fun howner hcopper => busSlot_of_granted_alone howner hinst hdecode (halone hcopper),
    fun h => busSlot_of_internal (hinternal h) hinst hdecode, fun h hcopper hnot => ?_,
    fun h hcopper howner u htransfer hdue => ?_⟩
  · have ⟨hslot, _⟩ := hcopper
    obtain ⟨u, htransfer, hblitter, hdue⟩ := ownerTransfer_of_internal (hinternal h) hslot hnot
    rw [arbitrate_blitter] at hblitter
    rw [eventDue_blitter_arbitrate (.inr (hinternal h))] at hdue
    exact ⟨u, htransfer, hblitter,
      busSlot_of_internal_alone (hinternal h) hinst hdecode (halone hcopper) htransfer hdue⟩
  · have htransfer' : ownerTransfer (ownerOf t) (arbitrate t) = .next u :=
      (congrArg (ownerTransfer · _) howner).trans htransfer
    exact busSlot_of_internal_alone (hinternal h) hinst hdecode (halone hcopper) htransfer' hdue

end Sys2Proof.Blitter
end

section
/-! A line's pixels: the bits that a load of the shifter emits, a pixel outside the display window, and hold-and-modify
(rules R387, R390, R412, R422, R427). -/

namespace Sys2Proof.Machine

/-! ### The bitplane shifter (rules R387, R390) -/

/-- A list of runs of `width` equal bits: the bit at `i` is that of run `i / width`. -/
theorem getD_flatMap_replicate (f : Nat → Bool) (width n i : Nat) :
    ((List.range n).flatMap fun j => List.replicate width (f j)).getD i false =
      if i < n * width then f (i / width) else false := by
  induction n with
  | zero => simp
  | succ n ih =>
    have hlength : ((List.range n).flatMap fun j => List.replicate width (f j)).length = n * width := by
      simp [List.length_flatMap]
    rw [List.range_succ, List.flatMap_append, List.flatMap_singleton, Nat.succ_mul]
    by_cases hi : i < n * width
    · rw [List.getD_append _ _ _ _ (hlength ▸ hi), ih, if_pos hi, if_pos (Nat.lt_add_right _ hi)]
    · have hn : n * width ≤ i := Nat.le_of_not_lt hi
      rw [List.getD_append_right _ _ _ _ (hlength ▸ hn), hlength]
      split
      case isTrue hlast =>
        have hrun : i / width = n := Nat.div_eq_of_lt_le hn (Nat.succ_mul n width ▸ hlast)
        rw [List.getD_replicate (h := by omega), hrun]
      case isFalse hlast =>
        exact List.getD_eq_default _ _ (by rw [List.length_replicate]; omega)

/-- The shift register's bits, MSB first, each `pw` coordinates wide. -/
theorem getD_shiftBits (pw : Nat) (w : Word) (i : Nat) :
    (shiftBits pw w).getD i false = if i < 16 * pw then w.getLsbD (15 - i / pw) else false :=
  getD_flatMap_replicate (fun j => w.getLsbD (15 - j)) pw 16 i

/-- Before its start, a plane cut there and filled up with zeros reads as it was. -/
theorem getD_take_append_replicate (old : List Bool) {start x : Nat} (hx : x < start) (n : Nat) :
    (old.take start ++ List.replicate n false).getD x false = old.getD x false := by
  by_cases hold : x < old.length
  · have htake : x < (old.take start).length := by rw [List.length_take]; omega
    rw [List.getD_append _ _ _ _ htake, List.getD_eq_getElem _ _ htake, List.getElem_take, List.getD_eq_getElem]
  · have htake : (old.take start).length ≤ x := by rw [List.length_take]; omega
    rw [List.getD_append_right _ _ _ _ htake, List.getD_eq_getElem?_getD, List.getElem?_getD_replicate_default_eq,
      List.getD_eq_default _ _ (Nat.le_of_not_lt hold)]

/-- A load leaves what stands before its start and cuts off all that stood behind. -/
theorem getD_overwriteFrom (old bits : List Bool) (start : Nat) {x : Nat} (hx : x < hpixels) :
    (overwriteFrom old start bits).getD x false =
      if x < start then old.getD x false else bits.getD (x - start) false := by
  have hlength : (old.take start ++ List.replicate (start - old.length) false).length = start := by
    rw [List.length_append, List.length_take, List.length_replicate]
    omega
  rw [overwriteFrom, List.getD_eq_getElem?_getD, List.getElem?_take_of_lt hx, ← List.getD_eq_getElem?_getD]
  split
  case isTrue hbefore =>
    rw [List.getD_append _ _ _ _ (hlength.symm ▸ hbefore), getD_take_append_replicate _ hbefore]
  case isFalse hfrom =>
    rw [List.getD_append_right _ _ _ _ (hlength.symm ▸ Nat.le_of_not_lt hfrom), hlength]

/-! ### A pixel outside the display window (rules R412, R422, R427) -/

/-- Outside the display window, a pixel is a border pixel. -/
theorem translatePixel_border {s : State} (houtside : (s.window.diwV && s.denise.rDiwH) = false) (x : Nat) :
    ((translatePixel x s).1.denise, (translatePixel x s).2) = borderPixel (bBufferAt s.bpl x) s.denise := by
  simp only [translatePixel, houtside, Bool.false_eq_true, if_false]

/-! ### Hold-and-modify (rule R427) -/

variable (color : Vector (BitVec 12) 32) (prev : BitVec 12) (d : BitVec 4)

/-- `hamNext` by its control bits and its data. -/
theorem hamNext_append (control : BitVec 2) :
    hamNext color prev (control ++ d : BitVec 6) =
      if control = 0#2 then color[Fin.ofNat 32 d.toNat]
      else if control = 1#2 then (prev.extractLsb' 4 8 ++ d : BitVec 12)
      else if control = 2#2 then (d ++ prev.extractLsb' 0 8 : BitVec 12)
      else (prev.extractLsb' 8 4 ++ d ++ prev.extractLsb' 0 4 : BitVec 12) := by
  have hcontrol : (control ++ d : BitVec 6).extractLsb' 4 2 = control := BitVec.extractLsb'_append_eq_left
  have hdata : (control ++ d : BitVec 6).extractLsb' 0 4 = d := BitVec.extractLsb'_append_eq_right
  simp only [hamNext, hcontrol, hdata]

end Sys2Proof.Machine

namespace Sys2Proof.Denise

open Sys2Proof.Machine

/-- Settles O58: a load keeps the bits before its start, and what stands from there on is the shift register's bits, or
nothing for a plane above the count. -/
theorem shifterEmits : Obligations.ShifterEmits := by
  intro con0 con1 w h p x old hx _ pw start
  have hload : (emitPlane con0 con1 h p w old).getD x false =
      if x < start then old.getD x false
      else (if p ≤ planeCount (con0.getLsbD 15) con0 then shiftBits pw w else []).getD (x - start) false :=
    getD_overwriteFrom _ _ _ hx
  rw [hload]
  refine if_ctx_congr Iff.rfl (fun _ => rfl) fun hfrom => ?_
  have hinside : x - start < 16 * pw ↔ x < start + 16 * pw := by omega
  by_cases hplane : p ≤ planeCount (con0.getLsbD 15) con0
  · simp only [hplane, if_true, getD_shiftBits, hinside, true_and]
  · simp only [hplane, if_false, List.getD_nil, false_and]

/-- Settles O59: the pixel is a border pixel, which reads colour register 0 and leaves `CLXDAT`. -/
theorem borderPixel : Obligations.BorderPixel := by
  intro s x houtside
  obtain ⟨hdenise, hshown⟩ := Prod.mk.inj (translatePixel_border houtside x)
  exact ⟨hshown, congrArg (·.clxdat) hdenise, congrArg (·.hamPrev) hdenise⟩

/-- Settles O60: `hamNext` at each control code, its channels as digits of base 16. -/
theorem hamColours : Obligations.HamColours := by
  intro color prev d
  refine ⟨hamNext_append color prev d 0#2, ?blue, ?red, ?green⟩
  case blue =>
    have hblue : hamNext color prev (1#2 ++ d : BitVec 6) = (prev.extractLsb' 4 8 ++ d : BitVec 12) :=
      hamNext_append color prev d 1#2
    rw [hblue, toNat_append_eq_add, BitVec.extractLsb'_toNat, Nat.shiftRight_eq_div_pow]
    omega
  case red =>
    have hred : hamNext color prev (2#2 ++ d : BitVec 6) = (d ++ prev.extractLsb' 0 8 : BitVec 12) :=
      hamNext_append color prev d 2#2
    rw [hred, toNat_append_eq_add, BitVec.extractLsb'_toNat, Nat.shiftRight_zero]
    rfl
  case green =>
    have hgreen : hamNext color prev (3#2 ++ d : BitVec 6) =
        (prev.extractLsb' 8 4 ++ d ++ prev.extractLsb' 0 4 : BitVec 12) := hamNext_append color prev d 3#2
    rw [hgreen, toNat_append_eq_add, toNat_append_eq_add, BitVec.extractLsb'_toNat, BitVec.extractLsb'_toNat,
      Nat.shiftRight_zero, Nat.shiftRight_eq_div_pow]
    omega

end Sys2Proof.Denise
end

section
/-! The custom registers (spec/44_registers.md): the effect of a read or a write by its register's class, and the writes
that wait for the next slot. -/

namespace Sys2Proof.Machine

variable {s : State} {off : Nat}

/-! ### A register operation by its class (rules R460-R464, R466, R490) -/

/-- The registers of class `R` take no write. -/
theorem registerWrite_of_readOnly (hclass : regClass off = .readOnly) (v : Word) (s : State) :
    registerWrite off v s = s := by
  unfold registerWrite
  rw [hclass]

/-- A write to a Denise strobe, or to an offset that names no register, is recorded. -/
theorem registerWrite_of_ignored (hclass : regClass off = .deniseStrobe ∨ regClass off = .absent) (v : Word)
    (s : State) : registerWrite off v s = recordUnimplemented off s := by
  obtain hclass | hclass := hclass <;> unfold registerWrite <;> rw [hclass]

/-- A write to a collaborator's register is handed on. -/
theorem registerWrite_of_collaborator (hclass : regClass off = .readCollaborator ∨ regClass off = .writeCollaborator)
    (v : Word) (s : State) : registerWrite off v s = forward (.regWrite off v) s := by
  obtain hclass | hclass := hclass <;> unfold registerWrite <;> rw [hclass]

/-- A read of a collaborator's register. -/
theorem registerRead_of_collaborator (hclass : regClass off = .readCollaborator) (s : State) :
    registerRead off s =
      setReadData ((collaboratorWord s).setWidth 32) (countDraw (forward (.regRead off) s)) := by
  unfold registerRead
  rw [hclass]

/-- A read of a Denise strobe. -/
theorem registerRead_of_strobe (hclass : regClass off = .deniseStrobe) (s : State) :
    registerRead off s = setReadData 0xFFFF#32 s := by
  unfold registerRead
  rw [hclass]

/-! ### The rows of a class (rule R67) -/

theorem regClass_readOnlyRows : ∀ r ∈ readOnlyRows, regClass r.1 = .readOnly := by decide

theorem regClass_strobeRows : ∀ r ∈ strobeRows, regClass r.1 = .deniseStrobe := by decide

theorem regClass_collaboratorReadRows : ∀ r ∈ collaboratorReadRows, regClass r.1 = .readCollaborator := by decide

theorem regClass_collaboratorWriteRows : ∀ r ∈ collaboratorWriteRows, regClass r.1 = .writeCollaborator := by
  decide +kernel

/-- The registers of the set DELAYED (rule R466). -/
theorem regClass_delayedRows :
    ∀ r ∈ displayRows ++ spriteRows ++ colourRows, regClass r.1 = .writable ∧ isDelayed r.1 = true := by
  decide +kernel

/-- An offset in no row of rule R67 is of class `-`. -/
theorem regClass_of_unimplementedOffset :
    ∀ off : RegOff, unimplementedOffset off = true → regClass off.toNat = .absent := by
  decide +kernel

/-- The rows of these families are the register operations at their offsets. -/
theorem isRegisterRow_of_readable : ∀ r ∈ readOnlyRows ++ strobeRows ++ collaboratorReadRows, IsRegisterRow r := by
  repeat refine List.forall_mem_cons.2 ⟨fun _ _ => rfl, ?_⟩
  exact List.forall_mem_nil _

theorem isRegisterRow_of_delayed : ∀ r ∈ displayRows ++ spriteRows ++ colourRows, IsRegisterRow r := by
  repeat refine List.forall_mem_cons.2 ⟨fun _ _ => rfl, ?_⟩
  exact List.forall_mem_nil _

/-- A write through a row. -/
theorem IsRegisterRow.exec_write {r : Nat × (RegOp → Instr)} (hrow : IsRegisterRow r) {v : Word} {t : State}
    (hwrite : registerWrite r.1 v s = t) : exec (r.2 (.write v)) s = .next t :=
  hwrite ▸ hrow (.write v) s

/-- A read through a row. -/
theorem IsRegisterRow.exec_read {r : Nat × (RegOp → Instr)} (hrow : IsRegisterRow r) {t : State}
    (hread : registerRead r.1 s = t) : exec (r.2 .read) s = .next t :=
  hread ▸ hrow .read s

/-- The writes without effect (rules R477, R480, R496). -/
theorem execWrite_ignoredRows :
    ∀ r ∈ ignoredRows, ∀ (v : Word) (s : State), exec (r.2 (.write v)) s = .next s := by
  repeat refine List.forall_mem_cons.2 ⟨fun _ _ => rfl, ?_⟩
  exact List.forall_mem_nil _

/-- The disk pointer's halves are handed on (rule R67). -/
theorem execWrite_diskPointerRows :
    ∀ r ∈ diskPointerRows, ∀ (v : Word) (s : State),
      exec (r.2 (.write v)) s = .next (forward (.regWrite r.1 v) s) := by
  repeat refine List.forall_mem_cons.2 ⟨fun _ _ => rfl, ?_⟩
  exact List.forall_mem_nil _

/-- The halves of a bitplane pointer (rule R485). -/
theorem execWrite_bplpt (p : Fin 6) (v : Word) (s : State) :
    exec (bplPthOps[p] (.write v)) s = .next (writeBplpt p false v s) ∧
      exec (bplPtlOps[p] (.write v)) s = .next (writeBplpt p true v s) := by
  fin_cases p <;> exact ⟨rfl, rfl⟩

/-- The halves of a sprite pointer (rule R501). -/
theorem execWrite_sprpt (n : Fin 8) (v : Word) (s : State) :
    exec (spritePthOps[n] (.write v)) s = .next (writeSprpt n false v s) ∧
      exec (spritePtlOps[n] (.write v)) s = .next (writeSprpt n true v s) := by
  fin_cases n <;> exact ⟨rfl, rfl⟩

/-! ### The queue of delayed writes (rules R210, R466) -/

/-- Where a write due at `t` is queued, the index is that of the first one. -/
theorem firstDue_spec {t : BitVec 64} {q : List PendingWrite} (hq : ∃ p ∈ q, p.due = t) :
    firstDue t q < q.length ∧ (q.map PendingWrite.due)[firstDue t q]? = some t ∧
      ∀ k, k < firstDue t q → (q.map PendingWrite.due)[k]? ≠ some t := by
  have hlength : firstDue t q < q.length := by
    obtain ⟨p, hp, hdue⟩ := hq
    exact List.findIdx_lt_length_of_exists ⟨p, hp, beq_iff_eq.2 hdue⟩
  have hfound : q[firstDue t q].due = t := beq_iff_eq.1 (List.findIdx_getElem (w := hlength))
  refine ⟨hlength, ?_, fun k hk => ?_⟩
  · rw [List.getElem?_map, List.getElem?_eq_getElem hlength, Option.map_some, hfound]
  · have hbefore : (q[k].due == t) = false := List.not_of_lt_findIdx hk
    rw [List.getElem?_map, List.getElem?_eq_getElem (hk.trans hlength), Option.map_some, ne_eq, Option.some_inj]
    exact beq_eq_false_iff_ne.1 hbefore

@[simp] theorem writesDone_sprites (s : State) : (writesDone s).sprites = s.sprites := rfl

/-- The operation does not depend on the event slots and leaves them. -/
def IgnoresEvents (f : State → State) : Prop :=
  ∀ (s : State) (e : Events), f { s with events := e } = { f s with events := e }

theorem IgnoresEvents.events_eq {f : State → State} (hf : IgnoresEvents f) (s : State) : (f s).events = s.events := by
  have h : f s = { f s with events := s.events } := hf s s.events
  exact (congrArg State.events h :)

/-- The one write due is applied, and its queue and its event are gone. -/
theorem serveEvent_of_oneWriteDue {v : Word} (hdue : OneWriteDue off v s) (f : State → State)
    (happly : ∀ u, applyReg off v u = f u) (hf : IgnoresEvents f) :
    serveEvent .none slotReg s = .next (f (writesDone s)) := by
  obtain ⟨hpending, hevent⟩ := hdue
  have hready : eventDue slotReg s = true := by
    have hnow : s.now.toInt ≤ (s.now.toNat : Int) := by rw [BitVec.toInt_eq_toNat_cond]; split <;> omega
    simp only [eventDue, hevent, hnow, ne_eq, reduceCtorEq, not_false_eq_true, decide_true, Bool.and_self]
  have hwrites : applyDue s = cancel slotReg (f { s with pending := [] }) := by
    unfold applyDue
    simp [hpending, hevent, writeDue, applyWrites, happly]
  have hcancel : cancel slotReg (f { s with pending := [] }) = f (writesDone s) := by
    unfold cancel
    rw [hf.events_eq, hevent]
    exact (hf { s with pending := [] } _).symm
  rw [serveEvent_due _ _ _ hready]
  exact congrArg Host.Outcome.next (hwrites.trans hcancel)

/-! ### The delayed registers (rules R482, R483, R487-R489, R500, R505-R509) -/

/-- The bitplane data registers. -/
theorem applyReg_bpldat (p : Fin 6) (v : Word) (s : State) :
    applyReg (0x110 + 2 * p.val) v s = writeBpldat p v s := by
  have hp : Fin.ofNat 6 ((0x110 + 2 * p.val - 0x110) / 2) = p := Fin.ext (by simp)
  simp (disch := omega) only [applyReg, applyBitplane, if_pos, if_neg, hp]

/-- The sprite registers. -/
theorem applyReg_sprite (n : Fin 8) {k : Nat} (hk : k < 8) (v : Word) (s : State) :
    applyReg (0x140 + k + 8 * n.val) v s =
      if k = 0 then writeSprpos n v s
      else if k = 2 then writeSprctl n v s
      else if k = 4 then writeSprdata n v s
      else writeSprdatb n v s := by
  have hn : Fin.ofNat 8 ((0x140 + k + 8 * n.val - 0x140) / 8) = n := Fin.ext (by simp; omega)
  have hmod : (0x140 + k + 8 * n.val) % 8 = k := by omega
  simp (disch := omega) only [applyReg, applySprite, if_pos, if_neg, hn, hmod]

/-- The colour registers. -/
theorem applyReg_color (i : Fin 32) (v : Word) (s : State) :
    applyReg (0x180 + 2 * i.val) v s = writeColor i v s := by
  have hi : Fin.ofNat 32 ((0x180 + 2 * i.val - 0x180) / 2) = i := Fin.ext (by simp)
  simp (disch := omega) only [applyReg, if_neg, hi]

/-! ### The attach bit of a pair (rules R56, R506) -/

/-- A sprite after the update of one. -/
theorem withSprite_getElem (n m : Fin 8) (f : Sprite → Sprite) (s : State) :
    (withSprite n f s).sprites[m] = if n = m then f s.sprites[m] else s.sprites[m] := by
  rw [withSprite_sprites, Fin.getElem_fin, Vector.getElem_set]
  split
  case isTrue h =>
    obtain rfl := Fin.ext h
    rw [if_pos rfl]
  case isFalse h => rw [if_neg (fun hnm => h (congrArg Fin.val hnm)), Fin.getElem_fin]

/-- A write to an odd sprite's control word sets the attach bit of the pair. -/
theorem writeAttach_getElem (n m : Fin 8) (v : Word) (s : State) :
    (writeAttach n v s).sprites[m] = { s.sprites[m] with
      attach := if n.val % 2 = 1 ∧ (m = n ∨ m.val + 1 = n.val) then v.getLsbD 7 else s.sprites[m].attach } := by
  unfold writeAttach
  by_cases hodd : n.val % 2 = 1
  case neg => simp only [hodd, if_false, false_and]
  case pos =>
    have hself : n = m ↔ m = n := eq_comm
    have heven : Fin.ofNat 8 (n.val - 1) = m ↔ m.val + 1 = n.val := by
      rw [Fin.ext_iff, Fin.val_ofNat]
      omega
    rw [if_pos hodd, withSprite_getElem, withSprite_getElem]
    simp only [hodd, true_and, hself, heven]
    by_cases hm : m = n
    · simp only [hm, if_true, true_or, ite_self]
    · simp only [hm, if_false, false_or]
      split <;> rfl

/-- It changes no more than the sprites. -/
theorem writeAttach_frame (n : Fin 8) (v : Word) (s : State) :
    writeAttach n v s = { s with sprites := (writeAttach n v s).sprites } := by
  unfold writeAttach
  split <;> rfl

theorem ignoresEvents_writeSprctl (n : Fin 8) (v : Word) : IgnoresEvents (writeSprctl n v) := by
  intro s e
  unfold writeSprctl writeAttach
  split <;> rfl

end Sys2Proof.Machine

namespace Sys2Proof.Registers

open Sys2Proof.Machine

/-- Settles O29: such an offset is of class `-`, whose read is the write of the bus value and its answer. -/
theorem unimplementedAccess : Obligations.UnimplementedAccess := by
  intro off s v hoff
  have hclass : regClass off.toNat = .absent := regClass_of_unimplementedOffset off hoff
  have hback : readsBack off.toNat = true := by rw [readsBack, hclass]; decide
  constructor
  · exact congrArg Host.Outcome.next (registerWrite_of_ignored (.inr hclass) v s)
  · refine congrArg Host.Outcome.next ((registerRead_of_readsBack hback s).trans ?_)
    rw [registerWrite_of_ignored (.inr hclass)]
    rfl

/-- Settles O36: the write due is `writeColor`. -/
theorem colourWriteApplies : Obligations.ColourWriteApplies :=
  fun i v _ hdue => serveEvent_of_oneWriteDue hdue (writeColor i v) (applyReg_color i v) fun _ _ => rfl

/-- Settles O37: the write due is that of the register at its place among the sprite's four. -/
theorem spriteWriteApplies : Obligations.SpriteWriteApplies := by
  intro n v s
  refine ⟨fun hdue => ?_, fun hdue => ?_, fun hdue => ?_⟩
  · exact serveEvent_of_oneWriteDue hdue (writeSprpos n v) (applyReg_sprite n (k := 0) (by decide) v) fun _ _ => rfl
  · exact serveEvent_of_oneWriteDue hdue (writeSprdata n v) (applyReg_sprite n (k := 4) (by decide) v) fun _ _ => rfl
  · exact serveEvent_of_oneWriteDue hdue (writeSprdatb n v) (applyReg_sprite n (k := 6) (by decide) v) fun _ _ => rfl

/-- Settles O38: the write due is `writeSprctl`, whose sprites are those of the control word, then of the attach bit. -/
theorem spriteControlApplies : Obligations.SpriteControlApplies := by
  intro n v s hdue
  have hserve : serveEvent .none slotReg s = .next (writeSprctl n v (writesDone s)) :=
    serveEvent_of_oneWriteDue hdue (writeSprctl n v) (applyReg_sprite n (k := 2) (by decide) v)
      (ignoresEvents_writeSprctl n v)
  refine ⟨_, hserve, ?self, fun m hm => ?other, ?frame⟩
  case self =>
    refine (writeAttach_getElem n n v _).trans ?_
    rw [withSprite_getElem, if_pos rfl]
    simp only [writesDone_sprites, true_or, and_true]
  case other =>
    refine (writeAttach_getElem n m v _).trans ?_
    rw [withSprite_getElem, if_neg hm.symm]
    simp only [writesDone_sprites, hm, false_or]
  case frame =>
    rw [writeSprctl, writeAttach_frame]
    rfl

/-- Settles O39: each write due is that of its register. -/
theorem displayWriteApplies : Obligations.DisplayWriteApplies := by
  intro v s
  refine ⟨fun hdue => ?_, fun hdue => ?_, fun hdue => ?_, fun p hdue => ?_, fun hdue => ?_, fun hdue => ?_,
    fun hdue => ?_⟩
  · exact serveEvent_of_oneWriteDue hdue (writeBplcon0 v) (fun _ => rfl) fun _ _ => rfl
  · exact serveEvent_of_oneWriteDue hdue (writeBplcon1 v) (fun _ => rfl) fun _ _ => rfl
  · exact serveEvent_of_oneWriteDue hdue (writeBplcon2 v) (fun _ => rfl) fun _ _ => rfl
  · exact serveEvent_of_oneWriteDue hdue (writeBpldat p v) (applyReg_bpldat p v) fun _ _ => rfl
  · exact serveEvent_of_oneWriteDue hdue (writeDiwstrt v) (fun _ => rfl) fun _ _ => rfl
  · exact serveEvent_of_oneWriteDue hdue (writeDiwstop v) (fun _ => rfl) fun _ _ => rfl
  · exact serveEvent_of_oneWriteDue hdue (writeClxcon v) (fun _ => rfl) fun _ _ => rfl

/-- Settles O22: each register by its set/clear write, `INTREQ` and `INTENA` with the level pushed. -/
theorem setClearRegisters : Obligations.SetClearRegisters := fun _ _ => ⟨rfl, rfl, rfl⟩

/-- Settles O23: each of these reads is that of its readable value. -/
theorem statusReads : Obligations.StatusReads := fun _ => ⟨rfl, rfl, rfl, rfl, rfl⟩

/-- Settles O24: a read has its value from before its effect. -/
theorem clxdatRead : Obligations.ClxdatRead := fun _ => rfl

/-- Settles O25: a register of class `R` takes no write, and the other four take theirs without effect. -/
theorem ignoredWrites : Obligations.IgnoredWrites := by
  intro r hr s v
  obtain hread | hignored := List.mem_append.1 hr
  · exact (isRegisterRow_of_readable r (List.mem_append_left _ (List.mem_append_left _ hread))).exec_write
      (registerWrite_of_readOnly (regClass_readOnlyRows r hread) v s)
  · exact execWrite_ignoredRows r hignored v s

/-- Settles O28: the two operations of the strobes' class. -/
theorem strobesIgnored : Obligations.StrobesIgnored := by
  intro r hr s v
  have hrow : IsRegisterRow r :=
    isRegisterRow_of_readable r (List.mem_append_left _ (List.mem_append_right _ hr))
  have hclass : regClass r.1 = .deniseStrobe := regClass_strobeRows r hr
  exact ⟨hrow.exec_write (registerWrite_of_ignored (.inl hclass) v s),
    hrow.exec_read (registerRead_of_strobe hclass s)⟩

/-- Settles O30: the two operations of the collaborators' classes, and the disk pointer's write. -/
theorem collaboratorRegisters : Obligations.CollaboratorRegisters := by
  constructor
  · intro r hr s v
    obtain (hwrite | hread) | hdisk := by simpa only [List.mem_append] using hr
    · exact (isRegisterRow_of_writeOnly r (List.mem_append_right _ hwrite)).exec_write
        (registerWrite_of_collaborator (.inr (regClass_collaboratorWriteRows r hwrite)) v s)
    · exact (isRegisterRow_of_readable r (List.mem_append_right _ hread)).exec_write
        (registerWrite_of_collaborator (.inl (regClass_collaboratorReadRows r hread)) v s)
    · exact execWrite_diskPointerRows r hdisk v s
  · intro r hr s
    exact (isRegisterRow_of_readable r (List.mem_append_right _ hr)).exec_read
      (registerRead_of_collaborator (regClass_collaboratorReadRows r hr) s)

/-- Settles O32: each is the write of its register. -/
theorem copperRegisters : Obligations.CopperRegisters := fun _ _ => ⟨rfl, rfl, rfl, rfl, rfl, rfl, rfl, rfl⟩

/-- Settles O33: each is the write of its register, `writeBlitter` at its offset. -/
theorem blitterRegisters : Obligations.BlitterRegisters :=
  fun _ _ => ⟨rfl, rfl, rfl, rfl, rfl, rfl, rfl, rfl, rfl, rfl, rfl, rfl, rfl, rfl, rfl, rfl, rfl, rfl, rfl⟩

/-- Settles O34: each is the write of its register, a pointer's halves those of its plane or sprite. -/
theorem displayDmaRegisters : Obligations.DisplayDmaRegisters :=
  fun s v => ⟨rfl, rfl, rfl, rfl, fun p => execWrite_bplpt p v s, fun n => execWrite_sprpt n v s⟩

/-- Settles O35: the write is queued behind the others, so that one is due in the next slot. -/
theorem delayedWritesQueue : Obligations.DelayedWritesQueue := by
  intro r hr s v q
  obtain ⟨hclass, hdelayed⟩ := regClass_delayedRows r hr
  obtain ⟨hindex, hfound, hbefore⟩ := firstDue_spec (t := s.now + 1#64) (q := q)
    ⟨_, List.mem_append_right _ (List.mem_singleton_self _), rfl⟩
  exact ⟨_, hindex, hfound, hbefore,
    (isRegisterRow_of_delayed r hr).exec_write (registerWrite_of_delayed hclass hdelayed v s)⟩

end Sys2Proof.Registers
end

section
/-! The interrupt aggregator (rules R523-R526): the level bit by bit, and what raising an interrupt does. -/

namespace Sys2Proof.Machine

variable {s : State} {bit : Nat}

/-! ### The interrupt level (rule R525) -/

/-- A request is active where it is made and enabled, and interrupts are enabled at all. -/
def irqActive (intreq intena : Word) (i : Nat) : Bool := intena.getLsbD 14 && (intreq.getLsbD i && intena.getLsbD i)

/-- `act`, bit by bit: bits 15 and 14 request nothing. -/
theorem getLsbD_activeRequests (intreq intena : Word) (i : Nat) :
    (activeRequests intreq intena).getLsbD i = (irqActive intreq intena i && decide (i < 14)) := by
  have hmask : (0x3FFF#16).getLsbD i = decide (i < 14) := by
    change ((BitVec.allOnes 14).setWidth 16).getLsbD i = _
    rw [BitVec.getLsbD_setWidth, BitVec.getLsbD_allOnes, ← Bool.decide_and, decide_eq_decide]
    omega
  unfold activeRequests irqActive
  split
  case isTrue hmaster => rw [BitVec.getLsbD_and, BitVec.getLsbD_and, hmask, hmaster, Bool.true_and]
  case isFalse hmaster => rw [Bool.eq_false_of_not_eq_true hmaster, BitVec.getLsbD_zero, Bool.false_and, Bool.false_and]

/-- The requests meet a mask exactly when one of its bits is active. -/
theorem activeRequests_meets_iff (intreq intena mask : Word) (bits : List Nat)
    (hmask : ∀ i < 14, mask.getLsbD i = decide (i ∈ bits)) (hbits : ∀ i ∈ bits, i < 14) :
    activeRequests intreq intena &&& mask ≠ 0#16 ↔ bits.any (irqActive intreq intena) = true := by
  have hbit (i : Nat) : (activeRequests intreq intena &&& mask).getLsbD i = true ↔
      i ∈ bits ∧ irqActive intreq intena i = true := by
    rw [BitVec.getLsbD_and, getLsbD_activeRequests]
    by_cases hi : i < 14
    · simp [hmask i hi, hi, and_comm]
    · have hnot : i ∉ bits := fun h => hi (hbits i h)
      simp [hi, hnot]
  rw [Ne, BitVec.zero_iff_eq_false, List.any_eq_true]
  simp only [not_forall, Bool.not_eq_false, hbit]

/-! ### Raising an interrupt (rule R523) -/

/-- A request raised is one more bit of `INTREQ`. -/
theorem getLsbD_raised (intreq : Word) (hbit : bit < 16) (k : Nat) :
    (intreq ||| (1#16 <<< bit)).getLsbD k = (intreq.getLsbD k || decide (k = bit)) := by
  have hone : (1#16 <<< bit).getLsbD k = decide (k = bit) := by
    change (BitVec.twoPow 16 bit).getLsbD k = _
    rw [BitVec.getLsbD_twoPow, decide_eq_true hbit, Bool.true_and, decide_eq_decide, eq_comm]
  rw [BitVec.getLsbD_or, hone]

/-- Raising an interrupt pushes the level. -/
theorem levelPushed_raiseIrq (bit : Nat) (s : State) : LevelPushed (raiseIrq bit s) := rfl

/-- A request already made, with its level pushed, is as it was. -/
theorem raiseIrq_of_raised (hbit : bit < 16) (hlevel : LevelPushed s) (hraised : s.ctl.intreq.getLsbD bit = true) :
    raiseIrq bit s = s := by
  have hkept : s.ctl.intreq ||| (1#16 <<< bit) = s.ctl.intreq := by
    refine BitVec.eq_of_getLsbD_eq fun k _ => ?_
    rw [getLsbD_raised _ hbit]
    by_cases hk : k = bit
    · rw [hk, hraised, Bool.true_or]
    · rw [decide_eq_false hk, Bool.or_false]
  change { s with ctl := { s.ctl with
    intreq := s.ctl.intreq ||| (1#16 <<< bit)
    ipl := interruptLevel (s.ctl.intreq ||| (1#16 <<< bit)) s.ctl.intena } } = s
  rw [hkept, ← hlevel]

end Sys2Proof.Machine

namespace Sys2Proof.Exceptions

open Sys2Proof.Machine

/-- Settles O20: each mask of the level's definition is met where one of its bits is active. -/
theorem interruptLevel : Obligations.InterruptLevel := by
  intro r e act
  have hmeets := activeRequests_meets_iff r e
  unfold Machine.interruptLevel
  simp only [hmeets 0x2000#16 [13] (by decide) (by decide), hmeets 0x1800#16 [12, 11] (by decide) (by decide),
    hmeets 0x0780#16 [10, 9, 8, 7] (by decide) (by decide), hmeets 0x0070#16 [6, 5, 4] (by decide) (by decide),
    hmeets 0x0008#16 [3] (by decide) (by decide), hmeets 0x0007#16 [2, 1, 0] (by decide) (by decide),
    List.any_cons, List.any_nil, Bool.or_false, Bool.or_assoc]
  rfl

/-- Settles O21: the request is one bit more, and the level follows it. -/
theorem raiseIrq : Obligations.RaiseIrq := by
  intro s bit hbit
  have hword : bit < 16 := by omega
  refine ⟨?_, fun k hk => ?_, levelPushed_raiseIrq bit s, raiseIrq_of_raised hword⟩
  · rw [raiseIrq_ctl, getLsbD_raised _ hword, decide_eq_true rfl, Bool.or_true]
  · rw [raiseIrq_ctl, getLsbD_raised _ hword, decide_eq_false hk, Bool.or_false]

end Sys2Proof.Exceptions
end

section
/-! SUPPORT. What a slot and an input do to the pushed interrupt level and to the micro-programs, said once for every
operation (`Safe`, `SafeResult`). -/

namespace Sys2Proof.Machine

variable {s t u : State}

/-! ### Safe operations -/

/-- From `s` to `t` a current level stays current (rules R525, R526), and well-formed programs stay well-formed (rules
R158, R163). -/
structure Safe (s t : State) : Prop where
  level    : LevelPushed s → LevelPushed t
  programs : ProgramsWellFormed s → ProgramsWellFormed t

/-- The parts of the state that `Safe` speaks of. -/
def safeView (s : State) : Control × Cfg × Option (List Word) := (s.ctl, s.cfg, s.blitter.prog)

/-- An operation on other parts of the state is safe. -/
theorem Safe.of_view (h : safeView t = safeView s) : Safe s t := by
  simp only [safeView, Prod.mk.injEq] at h
  obtain ⟨hctl, hcfg, hprog⟩ := h
  constructor
  · unfold LevelPushed
    rw [hctl]
    exact id
  · unfold ProgramsWellFormed
    rw [hcfg, hprog]
    exact id

/-- Nothing changed. -/
theorem Safe.refl (s : State) : Safe s s := .of_view rfl

/-- One after the other, the later one first: it names what the earlier one leaves. -/
theorem Safe.after (k : Safe t u) (h : Safe s t) : Safe s u := ⟨k.level ∘ h.level, k.programs ∘ h.programs⟩

/-- A further change that the level and the programs do not see. -/
theorem Safe.view (h : Safe s t) (k : safeView u = safeView t) : Safe s u := .after (.of_view k) h

/-- Either of two. -/
theorem Safe.ite {c : Prop} [Decidable c] (h : Safe s t) (k : Safe s u) : Safe s (if c then t else u) := by
  split
  · exact h
  · exact k

/-- An operation that pushes the level and leaves the programs. -/
theorem Safe.of_pushed (hlevel : LevelPushed t) (hcfg : t.cfg = s.cfg) (hprog : t.blitter.prog = s.blitter.prog) :
    Safe s t := by
  refine ⟨fun _ => hlevel, ?_⟩
  unfold ProgramsWellFormed
  rw [hcfg, hprog]
  exact id

/-- What a meaning answers is safe where it is a next state, and with well-formed programs it is one. -/
structure SafeResult (s : State) (r : Result) : Prop where
  safe    : ∀ t, r = .next t → Safe s t
  answers : ProgramsWellFormed s → ∃ t, r = .next t

/-- A next state. -/
theorem SafeResult.next (h : Safe s t) : SafeResult s (.next t) where
  safe := by
    rintro _ ⟨⟩
    exact h
  answers _ := ⟨t, rfl⟩

/-- Sequencing: the programs are still well-formed where the second part begins. -/
theorem SafeResult.andThen {r : Result} {f : State → Result} (h : SafeResult s r) (k : ∀ u, SafeResult u (f u)) :
    SafeResult s (andThen r f) where
  safe t ht := by
    obtain ⟨u, hu, hf⟩ := (andThen_eq_next _ _ _).1 ht
    exact .after ((k u).safe t hf) (h.safe u hu)
  answers hs := by
    obtain ⟨u, hu⟩ := h.answers hs
    obtain ⟨t, ht⟩ := (k u).answers ((h.safe u hu).programs hs)
    exact ⟨t, (andThen_eq_next _ _ _).2 ⟨u, hu, ht⟩⟩

/-- A result that is reached over a safe operation. -/
theorem SafeResult.after {r : Result} (k : SafeResult t r) (h : Safe s t) : SafeResult s r where
  safe u hu := .after (k.safe u hu) h
  answers hs := k.answers (h.programs hs)

/-! ### The Blitter.  From here on `safe_f` says that the operation `f` is safe. -/

theorem BlitterOnly.ctl (h : BlitterOnly s t) : t.ctl = s.ctl := by
  obtain ⟨chip, line, b, rfl⟩ := h
  rfl

theorem BlitterOnly.cfg (h : BlitterOnly s t) : t.cfg = s.cfg := by
  obtain ⟨chip, line, b, rfl⟩ := h
  rfl

/-- What keeps a blit's setup keeps its program. -/
theorem Safe.of_blitSetup (h : BlitterOnly s t) (hsetup : blitSetup t.blitter = blitSetup s.blitter) : Safe s t := by
  simp only [blitSetup, Prod.mk.injEq] at hsetup
  obtain ⟨-, -, -, hprog, -⟩ := hsetup
  exact .of_view (by rw [safeView, h.ctl, h.cfg, hprog, safeView])

/-- The words of a table entry are words of the table. -/
theorem microWellFormed_of_programWords {c : Cfg} (hc : ∀ p ∈ c.bltProgram, ∀ w ∈ p, microWellFormed w = true)
    (index : Nat) : ∀ w ∈ programWords c index, microWellFormed w = true := by
  unfold programWords
  rw [List.getD_eq_getElem?_getD]
  cases hp : c.bltProgram[index]? with
  | none => simp
  | some p => exact hc p (List.mem_of_getElem? hp)

theorem microWellFormed_lineProgram : ∀ w ∈ lineProgram, microWellFormed w = true := by
  have hwords : lineProgram.all microWellFormed = true := by decide +kernel
  exact List.all_eq_true.1 hwords

/-- A blit selects an entry of the table or the line program. -/
theorem Safe.of_selected (h : BlitterOnly s t)
    (hprog : t.blitter.prog = some lineProgram ∨ ∃ index, t.blitter.prog = some (programWords t.cfg index)) :
    Safe s t where
  level := by
    unfold LevelPushed
    rw [h.ctl]
    exact id
  programs := by
    rintro ⟨htable, -⟩
    rw [← h.cfg] at htable
    refine ⟨htable, fun p hp => ?_⟩
    obtain hline | ⟨index, hentry⟩ := hprog
    · obtain rfl : lineProgram = p := Option.some.inj (hline.symm.trans hp)
      exact microWellFormed_lineProgram
    · obtain rfl : programWords t.cfg index = p := Option.some.inj (hentry.symm.trans hp)
      exact microWellFormed_of_programWords htable index

theorem safe_selectProgram (index : Nat) (s : State) : Safe s (selectProgram index s) :=
  .of_selected (blitterOnly_selectProgram index s) (.inr ⟨index, rfl⟩)

theorem safe_selectLine (s : State) : Safe s (selectLine s) := .of_selected (blitterOnly_selectLine s) (.inl rfl)

theorem safe_fastBlit (s : State) : Safe s (fastBlit s) := .of_selected (blitterOnly_fastBlit s) (.inr ⟨_, rfl⟩)

theorem safe_lineBlit (s : State) : Safe s (lineBlit s) := .of_selected (blitterOnly_lineBlit s) (.inl rfl)

theorem safe_launch (v : Word) (s : State) : Safe s (launch v s) := by
  refine .after (.ite (safe_lineBlit _) ?_) (.of_view rfl)
  split
  · exact safe_selectProgram _ _
  · exact safe_fastBlit _

theorem safe_microTransfer (w : Word) (s : State) : Safe s (microTransfer w s) := by
  have hcontrol := (blitControl_dataTransfers w (slotRecord w s)).trans (congrArg blitControl (slotRecord_blitter w s))
  simp only [blitControl, Prod.mk.injEq] at hcontrol
  obtain ⟨-, -, -, -, hsetup⟩ := hcontrol
  exact .of_blitSetup (blitterOnly_microTransfer w s) hsetup

theorem safe_dataHolds (w : Word) (s : State) : Safe s (dataHolds w s) := by
  rw [dataHolds_eq]
  refine .of_view ?_
  simp only [ite_holdA, ite_holdB, ite_holdD, ite_blitRepeat, safeView, withBlitter_ctl, withBlitter_cfg,
    withBlitter_blitter]

/-- `BLTDONE` pushes the level that BLIT gives, and drops the program (rule R318). -/
theorem safe_bltDone (s : State) : Safe s (bltDone s) where
  level _ := rfl
  programs := fun ⟨htable, _⟩ => ⟨htable, by rintro _ ⟨⟩⟩

theorem safe_microActions (w : Word) (s : State) : Safe s (microActions w s) :=
  .after (.ite (safe_bltDone _) (.refl _)) (safe_dataHolds w s)

theorem safe_executeMicro (w : Word) (s : State) : Safe s (executeMicro w s) :=
  .after (safe_microActions w _) (safe_microTransfer w s)

/-! ### The custom registers -/

theorem safe_applySystem (off : Nat) (v : Word) (s : State) : Safe s (applySystem off v s) := by
  unfold applySystem
  split_ifs <;> exact .of_view rfl

/-- A Blitter register write leaves the program. -/
theorem writeBlitter_prog (c : Cfg) (off : Nat) (v : Word) (b : Blitter) : (writeBlitter c off v b).prog = b.prog := by
  have hite {p : Prop} [Decidable p] {x y : Blitter} (hx : x.prog = b.prog) (hy : y.prog = b.prog) :
      (if p then x else y).prog = b.prog := by
    split
    · exact hx
    · exact hy
  unfold writeBlitter
  iterate 19 refine hite rfl ?_
  rfl

theorem safe_writeBlitter (off : Nat) (v : Word) (s : State) : Safe s (withBlitter (writeBlitter s.cfg off v) s) :=
  .of_view (congrArg (fun p => (s.ctl, s.cfg, p)) (writeBlitter_prog s.cfg off v s.blitter))

/-- Of these registers `INTENA` and `INTREQ` change the level, and push it; `DMACON` does not enter it. -/
theorem safe_applyControl (off : Nat) (v : Word) (s : State) : Safe s (applyControl off v s) := by
  unfold applyControl
  iterate 10 refine .ite (.of_view rfl) ?_
  refine .ite (t := writeDmacon v s) ⟨id, id⟩ ?_
  refine .ite (.of_view rfl) ?_
  iterate 2 refine .ite (.of_pushed rfl rfl rfl) ?_
  exact .refl s

theorem safe_applyBitplane (off : Nat) (v : Word) (s : State) : Safe s (applyBitplane off v s) := by
  unfold applyBitplane
  split_ifs <;> exact .of_view rfl

theorem safe_writeSprctl (n : Fin 8) (v : Word) (s : State) : Safe s (writeSprctl n v s) := by
  have hattach (u : State) : Safe u (writeAttach n v u) := .ite (.of_view rfl) (.refl u)
  unfold writeSprctl
  refine .view (t := writeAttach n v (withSprite n _ s)) ?_ rfl
  exact .after (hattach _) (.of_view rfl)

theorem safe_applySprite (off : Nat) (v : Word) (s : State) : Safe s (applySprite off v s) := by
  unfold applySprite
  split_ifs
  · exact .of_view rfl
  · exact safe_writeSprctl _ v s
  · exact .of_view rfl
  · exact .of_view rfl

theorem safe_applyReg (off : Nat) (v : Word) (s : State) : Safe s (applyReg off v s) := by
  unfold applyReg
  split_ifs
  · exact safe_applySystem off v s
  · exact safe_launch v s
  · exact safe_writeBlitter off v s
  · exact safe_applyControl off v s
  · exact safe_applyBitplane off v s
  · exact .of_view rfl
  · exact safe_applySprite off v s
  · exact .of_view rfl

theorem safe_registerWrite (off : Nat) (v : Word) (s : State) : Safe s (registerWrite off v s) := by
  obtain h | h | h | h | h := registerWrite_cases off v s <;> rw [h]
  · exact .refl s
  · exact .of_view rfl
  · exact .of_view rfl
  · exact .of_view rfl
  · exact safe_applyReg off v s

theorem safe_registerRead (off : Nat) (s : State) : Safe s (registerRead off s) := by
  have heffect : Safe s (readEffect off s) := .ite (.of_view rfl) (.refl s)
  have hback : Safe s (setReadData ((busQuirk s).setWidth 32) (registerWrite off (busQuirk s) s)) :=
    (safe_registerWrite off _ s).view rfl
  unfold registerRead
  split
  · exact heffect.view rfl
  · exact .of_view rfl
  · exact .of_view rfl
  all_goals exact hback

theorem safe_accessRegister (off : Nat) (op : RegOp) (s : State) : Safe s (accessRegister off op s) := by
  cases op with
  | read => exact safe_registerRead off s
  | write v => exact safe_registerWrite off v s

theorem safe_applyWrites (l : List PendingWrite) (s : State) : Safe s (applyWrites l s) := by
  induction l generalizing s with
  | nil => exact .refl s
  | cons p l ih => exact .after (ih _) (safe_applyReg _ _ s)

theorem safe_applyDue (s : State) : Safe s (applyDue s) := by
  have happly (rest due : List PendingWrite) : Safe s (applyWrites due { s with pending := rest }) :=
    .after (safe_applyWrites due _) (.of_view rfl)
  unfold applyDue
  dsimp only
  split
  all_goals exact (happly _ _).view rfl

/-! ### The instructions -/

theorem safe_execCopperMove (ra : BitVec 8) (data : Word) (s : State) : SafeResult s (execCopperMove ra data s) := by
  have hwrite := safe_registerWrite (moveDest ra) data s
  unfold execCopperMove
  split
  · exact .next (.of_view rfl)
  · exact .next (.ite (hwrite.view rfl) hwrite)

/-- Every instruction answers, and is safe. -/
theorem safe_exec (i : Instr) (s : State) : SafeResult s (exec i s) := by
  obtain ⟨ra, data, h⟩ | ⟨_, _, _, _, _, h⟩ | ⟨_, _, _, _, _, h⟩ | ⟨w, h⟩ | ⟨index, h⟩ | h | h | ⟨off, op, h⟩ :=
    exec_cases i s <;> rw [h]
  · exact safe_execCopperMove ra data s
  · exact .next (.of_view rfl)
  · exact .next (.of_view rfl)
  · exact .next (safe_executeMicro w s)
  · exact .next (safe_selectProgram index s)
  · exact .next (safe_selectLine s)
  · exact .next (safe_fastBlit s)
  · exact .next (safe_accessRegister off op s)

/-! ### The CPU port -/

theorem safe_storeByte (r : Region) (a : Addr) (v : Byte) (s : State) : Safe s (storeByte r a v s) := by
  cases r
  case wom => exact .ite (.refl s) (.of_view rfl)
  all_goals exact .of_view rfl

theorem safe_read16 (a : Addr) (s : State) : SafeResult s (read16 a s) := by
  unfold read16
  split
  · exact safe_exec _ s
  all_goals exact .next (.of_view rfl)

theorem safe_read8 (a : Addr) (s : State) : SafeResult s (read8 a s) := by
  unfold read8
  split
  · exact (safe_exec _ s).andThen fun _ => .next (.of_view rfl)
  all_goals exact .next (.of_view rfl)

theorem safe_write16 (a : Addr) (v : Word) (s : State) : SafeResult s (write16 a v s) := by
  unfold write16
  split
  · exact safe_exec _ s
  iterate 4 exact .next (.of_view rfl)
  all_goals exact .next (.after (safe_storeByte _ _ _ _) (safe_storeByte _ _ _ s))

theorem safe_write8 (a : Addr) (v : Byte) (s : State) : SafeResult s (write8 a v s) := by
  unfold write8
  split
  · exact safe_exec _ s
  iterate 4 exact .next (.of_view rfl)
  all_goals exact .next (safe_storeByte _ _ _ s)

theorem safe_accessTransfer (op : CpuOp) (a : Addr) (s : State) : SafeResult s (accessTransfer op a s) := by
  have hflag (width : Nat) (write : Bool) : Safe s (flagOdd a width write s) := .ite (.of_view rfl) (.refl s)
  cases op with
  | read8 => exact safe_read8 a s
  | read16 => exact (safe_read16 _ _).after (hflag 2 false)
  | read32 => exact (safe_read16 _ _).after (hflag 4 false)
  | write8 v => exact safe_write8 a v s
  | write16 v => exact (safe_write16 _ _ _).after (hflag 2 true)
  | write32 v => exact (safe_write16 _ _ _).after (hflag 4 true)
  | readLow hi => exact (safe_read16 _ s).andThen fun _ => .next (.of_view rfl)

theorem safe_finishAccess (acc : CpuAccess) (rest : List CpuAccess) (cost : Nat) (later : List CpuInstr)
    (s : State) : Safe s (finishAccess acc rest cost later s) := by
  obtain ⟨queue, clock, h⟩ := continueInstr_changes (secondHalf acc.op (acc.addr.setWidth 24) s ++ rest) cost later
    { s with bus := { s.bus with reqCPU := false, cpuClock := s.now + 2#64 } }
  unfold finishAccess
  rw [h]
  exact .of_view rfl

theorem safe_issueAccess (acc : CpuAccess) (rest : List CpuAccess) (cost : Nat) (later : List CpuInstr)
    (s : State) : SafeResult s (issueAccess acc rest cost later s) := by
  unfold issueAccess
  split_ifs
  · exact .next (.refl s)
  · exact .next (.of_view rfl)
  · exact (safe_accessTransfer _ _ s).andThen fun u => .next (safe_finishAccess acc rest cost later u)

theorem safe_cpuIssue (s : State) : SafeResult s (cpuIssue s) := by
  have hnext (u : State) : SafeResult u (issueNext u) := by
    unfold issueNext
    split
    · exact safe_issueAccess _ _ _ _ u
    · exact .next (.refl u)
    · exact .next (.refl u)
  unfold cpuIssue
  split
  · exact .next (.refl s)
  · obtain ⟨queue, clock, hidle⟩ := runIdle_changes s.cpu.queue s
    rw [hidle]
    exact (hnext _).after (.of_view rfl)

theorem safe_cpuTransfer (s : State) : SafeResult s (cpuTransfer s) := by
  unfold cpuTransfer
  split
  · exact (safe_accessTransfer _ _ s).andThen fun u => .next (.after (safe_finishAccess _ _ _ _ _) (.of_view rfl))
  · exact .next (.of_view rfl)
  · exact .next (.of_view rfl)

/-! ### The programmable agents -/

/-- With well-formed programs the Blitter's next word decodes (rules R158, R163). -/
theorem decodeMicro_of_blitterInst (hs : ProgramsWellFormed s) {w : Word} (h : blitterInst s.blitter = some w) :
    ∃ i, decodeMicro w = .ok i := by
  obtain ⟨-, hprog⟩ := hs
  obtain ⟨p, hp, hw⟩ := blitterInst_eq_some_iff.1 h
  have hwf : microWellFormed w = true := hprog p hp w (List.mem_of_getElem? hw)
  rw [decodeMicro, if_pos hwf]
  split <;> exact ⟨_, rfl⟩

/-- What is done with the Blitter's word is refused only for an ill-formed one. -/
theorem safe_withMicro {f : Word → Instr → Result} (s : State) (hf : ∀ w i, SafeResult s (f w i)) :
    SafeResult s (withMicro f s) := by
  unfold withMicro
  split
  case h_1 => exact .next (.refl s)
  case h_2 w hinst =>
    split
    case h_1 i _ => exact hf w i
    case h_2 hdecode =>
      refine ⟨by rintro _ ⟨⟩, fun hs => ?_⟩
      obtain ⟨i, hi⟩ := decodeMicro_of_blitterInst hs hinst
      cases hi.symm.trans hdecode

theorem safe_copperFetch (s : State) : Safe s (copperFetch s) := by
  unfold copperFetch
  dsimp only
  split <;> exact .of_view rfl

theorem safe_copperStep (o : BusOwner) (s : State) : SafeResult s (copperStep o s) := by
  have hfetch : SafeResult s (.next (if o = .copper then copperFetch s else s)) :=
    .next (.ite (safe_copperFetch s) (.refl s))
  unfold copperStep
  split
  · exact hfetch
  · exact hfetch
  · exact safe_exec _ s
  · exact .next (.ite (.of_view rfl) (.refl s))
  · exact .next (.of_view rfl)
  · exact .next (.refl s)

theorem safe_blitterStep (o : BusOwner) (s : State) : SafeResult s (blitterStep o s) := by
  refine safe_withMicro s fun w i => ?_
  split
  · exact .next (safe_microActions w s)
  · exact safe_exec i s

/-! ### Agnus and Denise -/

theorem safe_windowTick (s : State) : Safe s (windowTick s) := .ite (.of_view rfl) (.of_view rfl)

theorem safe_arbitrate (s : State) : Safe s (arbitrate s) := by
  unfold arbitrate
  dsimp only
  split_ifs <;> exact .of_view rfl

theorem safe_spriteTransfer (n : Fin 8) (s : State) : Safe s (spriteTransfer n s) :=
  .after (safe_registerWrite _ _ _) (.of_view rfl)

theorem safe_bitplaneStep (o : BusOwner) (s : State) : Safe s (bitplaneStep o s) := by
  have hfetch (p : Fin 6) : Safe s (bitplaneTransfer p s) := .after (safe_registerWrite _ _ _) (.of_view rfl)
  unfold bitplaneStep
  split
  · exact .ite (hfetch _) (.refl s)
  · exact .refl s

/-- Where a frame begins, VERTB is raised and the level pushed (rule R202). -/
theorem safe_beamAdvance (s : State) : Safe s (beamAdvance s) := by
  by_cases hend : s.beam.h.toNat + 1 = s.cfg.lineSlots
  · rw [beamAdvance_of_eq hend]
    rcases lt_or_ge (s.beam.v.toNat + 1) (frameLines s) with hline | hlast
    · obtain ⟨_, _, _, _, _, h⟩ := newLine_of_lt hline
      rw [h]
      exact .of_view rfl
    · obtain ⟨_, _, _, _, _, h⟩ := newLine_of_le hlast
      rw [h]
      exact .of_pushed rfl rfl rfl
  · rw [beamAdvance_of_ne hend]
    exact .of_view rfl

theorem safe_finishSlot (s : State) : Safe s (finishSlot s) := by
  have hwindow (u : State) : Safe u (diwHorizontal u) := by
    unfold diwHorizontal
    dsimp only
    split_ifs <;> exact .of_view rfl
  exact .after (safe_beamAdvance _) <| .after (hwindow _) (.ite (.of_view rfl) (.refl s))

/-! ### The slot -/

theorem safe_serveEvent (o : BusOwner) (i : Fin 13) (s : State) : SafeResult s (serveEvent o i s) := by
  have hcancel : Safe s (cancel i s) := .of_view rfl
  unfold serveEvent
  split
  case isFalse => exact .next (.refl s)
  case isTrue =>
    obtain ⟨-, h⟩ | ⟨-, h⟩ | ⟨-, h⟩ | ⟨-, h⟩ | ⟨-, h⟩ := handleEvent_cases o i s <;> rw [h]
    · exact .next (safe_applyDue s)
    · exact (safe_copperStep o _).after hcancel
    · exact (safe_blitterStep o _).after hcancel
    · exact .next (.after (safe_bitplaneStep o _) hcancel)
    · exact .next (.of_view rfl)

theorem safe_serveEvents (o : BusOwner) (l : List (Fin 13)) (s : State) : SafeResult s (serveEvents o l s) := by
  induction l generalizing s with
  | nil => exact .next (.refl s)
  | cons i l ih => exact (safe_serveEvent o i s).andThen ih

theorem safe_ownerTransfer (o : BusOwner) (s : State) : SafeResult s (ownerTransfer o s) := by
  unfold ownerTransfer
  cases o
  case none => exact .next (.refl s)
  case refresh => exact .next (.of_view rfl)
  case disk => exact .next (.ite (.of_view rfl) (.of_view rfl))
  case audio => dsimp only; split <;> exact .next (.of_view rfl)
  case sprite =>
    dsimp only
    split
    · exact .next (safe_spriteTransfer _ s)
    · exact .next (.refl s)
  case bitplane => exact safe_serveEvent _ _ s
  case copper => exact safe_serveEvent _ _ s
  case blitter => exact safe_withMicro s fun w _ => .next (safe_microTransfer w s)
  case cpu => exact safe_cpuTransfer s

theorem safe_busSlot (s : State) : SafeResult s (busSlot s) :=
  ((safe_ownerTransfer _ _).andThen fun u => safe_serveEvents _ lateSlots u).after (safe_arbitrate s)
    |>.andThen fun u => .next (safe_finishSlot u)

/-- With well-formed programs a slot answers, and it is safe. -/
theorem safe_slot (s : State) : SafeResult s (slot s) :=
  (safe_serveEvents _ _ s).andThen fun t => (safe_cpuIssue t).andThen fun u =>
    (safe_busSlot _).after (safe_windowTick u)

/-! ### The inputs -/

theorem safe_whenPowered {f : State → State} (hf : Safe s (f s)) : Safe s (whenPowered f s) := .ite hf (.refl s)

theorem safe_takeInstructions (l : List CpuInstr) (s : State) : Safe s (takeInstructions l s) := by
  unfold takeInstructions
  dsimp only
  split <;> exact .of_view rfl

/-- A legal table holds well-formed words (rules R9, R163). -/
theorem microWellFormed_of_valid {c : Cfg} (h : Cfg.valid c = true) :
    ∀ p ∈ c.bltProgram, ∀ w ∈ p, microWellFormed w = true := by
  simp only [Cfg.valid, Bool.and_eq_true, and_assoc] at h
  obtain ⟨-, -, -, -, -, -, -, -, -, -, -, hprograms, -⟩ := h
  intro p hp
  have hp' := List.all_eq_true.1 hprograms p hp
  simp only [validProgram, Bool.and_eq_true, and_assoc] at hp'
  obtain ⟨-, hwords, -⟩ := hp'
  exact List.all_eq_true.1 hwords

/-- A configuration is taken only with a table of well-formed words; a running program stays. -/
theorem safe_configure (c : Cfg) (s : State) : Safe s (configure c s) := by
  unfold configure
  split
  case isTrue hlegal =>
    obtain ⟨-, hvalid⟩ := Bool.and_eq_true_iff.1 hlegal
    refine ⟨id, ?_⟩
    rintro ⟨-, hrunning⟩
    exact ⟨microWellFormed_of_valid hvalid, hrunning⟩
  case isFalse => exact .of_view rfl

/-- The reset state of a configuration has the level 0 pushed and runs no program. -/
theorem safe_cold (s : State) : Safe s (State.cold s.cfg) where
  level _ := show 0#3 = interruptLevel 0#16 0#16 by decide
  programs := fun ⟨htable, _⟩ => ⟨htable, by rintro _ ⟨⟩⟩

theorem safe_powerOn (memory : Bool) (h : powerOn memory s = .next t) : Safe s t := by
  unfold powerOn at h
  split_ifs at h <;> cases h
  · exact .refl s
  · exact .of_view rfl
  · exact (safe_cold s).view rfl

/-- Every input is safe where it answers. -/
theorem safe_applyInput (i : Input) (h : applyInput i s = .next t) : Safe s t := by
  cases i
  case powerOn memory => exact safe_powerOn memory h
  all_goals cases h
  case overlay level => exact safe_whenPowered (.of_view rfl)
  case womLock => exact safe_whenPowered (.of_view rfl)
  case irq source => exact safe_whenPowered (.of_pushed rfl rfl rfl)
  case disk port => exact .of_view rfl
  case audio n port => exact .of_view rfl
  case cpu l => exact safe_whenPowered (safe_takeInstructions l s)
  case schedule i trigger id => exact safe_whenPowered (.ite (.of_view rfl) (.refl s))
  case configure c => exact safe_configure c s
  case reset => exact .ite ((safe_cold s).view rfl) (.refl s)
  case powerOff => exact .ite ((safe_cold s).view rfl) (.refl s)

/-- An input answers, or is a power-on whose memory is not allocated (rule R541). -/
theorem applyInput_answers_or_fault (i : Input) (s : State) :
    (∃ t, applyInput i s = .next t) ∨ (applyInput i s = .fault .memoryAllocationFailure ∧ i = .powerOn false) := by
  cases i
  case powerOn memory =>
    simp only [applyInput, powerOn]
    split_ifs with hon hrom hmemory
    · exact .inl ⟨_, rfl⟩
    · exact .inl ⟨_, rfl⟩
    · exact .inr ⟨rfl, by simpa using hmemory⟩
    · exact .inl ⟨_, rfl⟩
  all_goals exact .inl ⟨_, rfl⟩

theorem safe_takeInputs (l : List TimedInput) (h : takeInputs l s = .next t) : Safe s t := by
  induction l generalizing s with
  | nil =>
    cases h
    exact .of_view rfl
  | cons i l ih =>
    unfold takeInputs at h
    split at h
    · obtain ⟨u, hu, ht⟩ := (andThen_eq_next _ _ _).1 h
      exact .after (ih ht) (safe_applyInput _ hu)
    · cases h
      exact .of_view rfl

/-- The inputs are taken, or one of them is such a power-on. -/
theorem takeInputs_answers_or_fault (l : List TimedInput) (s : State) :
    (∃ t, takeInputs l s = .next t) ∨
      (takeInputs l s = .fault .memoryAllocationFailure ∧ ∃ x ∈ l, x.input = .powerOn false) := by
  induction l generalizing s with
  | nil => exact .inl ⟨_, rfl⟩
  | cons i l ih =>
    unfold takeInputs
    split
    · obtain ⟨u, hu⟩ | ⟨hfault, hi⟩ := applyInput_answers_or_fault i.input s
      · rw [hu, andThen_next]
        exact (ih u).imp_right fun ⟨hfault, x, hx, hinput⟩ => ⟨hfault, x, .tail _ hx, hinput⟩
      · exact .inr ⟨by rw [hfault, andThen_fault], i, .head _, hi⟩
    · exact .inl ⟨_, rfl⟩

/-! ### The step -/

/-- What follows the inputs: a slot, where the machine is powered. -/
theorem safe_poweredSlot (s : State) : SafeResult s (if s.powered then slot s else .next s) := by
  split
  · exact safe_slot s
  · exact .next (.refl s)

/-- A step is safe where it answers. -/
theorem safe_step (h : step s = .next t) : Safe s t := by
  obtain ⟨u, hu, hslot⟩ := (andThen_eq_next _ _ _).1 h
  exact .after ((safe_poweredSlot u).safe t hslot) (safe_takeInputs _ hu)

end Sys2Proof.Machine

namespace Sys2Proof.Exceptions

open Sys2Proof.Machine

/-- Settles O10: every step is safe. -/
theorem stepKeepsLevelPushed : Obligations.StepKeepsLevelPushed := fun _ _ hs h => (safe_step h).level hs

/-- Settles O14: the inputs stop only at a failing power-on, and leave programs with which the slot answers. -/
theorem stepAlwaysAnswers : Obligations.StepAlwaysAnswers := by
  intro s hs
  obtain ⟨u, hu⟩ | ⟨hfault, hinput⟩ := takeInputs_answers_or_fault s.ext.inputs s
  · obtain ⟨t, ht⟩ := (safe_poweredSlot u).answers ((safe_takeInputs _ hu).programs hs)
    have hstep : step s = .next t := (andThen_eq_next _ _ _).2 ⟨u, hu, ht⟩
    exact .inl ⟨t, hstep, (safe_step hstep).programs hs⟩
  · refine .inr ⟨?_, hinput⟩
    rw [step, machineStep, hfault, andThen_fault]

end Sys2Proof.Exceptions
end

section
/-! Reset: what power-on and reset answer, the values that the cold state of a configuration holds, and its
invariant. -/

namespace Sys2Proof.Machine

variable {s : State}

/-! ### Power-on and reset (rules R562, R563) -/

/-- Power-on without a ROM, whether or not memory can be allocated. -/
theorem applyInput_powerOn_without_rom (hoff : s.powered = false) (hrom : s.cfg.rom = none) (memory : Bool) :
    applyInput (.powerOn memory) s = .next (notify .romMissing s) := by
  simp [applyInput, powerOn, hoff, hrom]

/-- Power-on with a ROM, its memory allocated. -/
theorem applyInput_powerOn_with_rom (hoff : s.powered = false) (hrom : s.cfg.rom ≠ none) :
    applyInput (.powerOn true) s =
      .next (notify .memLayout (notify .powerOn { State.cold s.cfg with ext := s.ext })) := by
  simp [applyInput, powerOn, hoff, hrom]

/-- Two messages are sent in order. -/
theorem notify_notify (m n : Message) (s : State) :
    notify n (notify m s) = { s with ext := { s.ext with messages := s.ext.messages ++ [m, n] } } := by
  simp [notify]

/-! ### The values of the cold state (rule R560) -/

/-- No event slot is in use. -/
theorem cold_event (c : Cfg) (i : Fin 13) : (State.cold c).events.slots[i] = Event.idle := by
  simp [State.cold]

/-- Every sprite is at its reset values. -/
theorem cold_sprite (c : Cfg) (n : Fin 8) : (State.cold c).sprites[n] = Sprite.reset := by
  simp [State.cold]

/-- Every plane's pointer, data word and shift register are 0. -/
theorem cold_plane (c : Cfg) (p : Fin 6) :
    (State.cold c).bpl.bplpt[p] = 0 ∧ (State.cold c).bpl.bpldat[p] = 0 ∧ (State.cold c).bpl.shiftReg[p] = 0 := by
  simp [State.cold, Bitplanes.reset]

/-- Every colour register is 0. -/
theorem cold_color (c : Cfg) (i : Fin 32) : (State.cold c).denise.color[i] = 0 := by
  simp [State.cold, Denise.reset]

/-! ### The invariant -/

/-- The interface is no part of the invariant. -/
theorem Inv.with_ext (hs : Inv s) (e : Ext) : Inv { s with ext := e } where
  memory   := hs.memory
  level    := hs.level
  table    := hs.table
  pointers := hs.pointers.of_parts rfl
  programs := hs.programs
  bus      := hs.bus

/-- The cold state of a configuration meets the invariant when the words of the configuration's table are
well-formed: memory and the bus record are empty, no interrupt is pending, and no program runs. -/
theorem inv_cold {c : Cfg} (htable : ∀ p ∈ c.bltProgram, ∀ w ∈ p, microWellFormed w = true) :
    Inv (State.cold c) where
  memory   := ⟨rfl, rfl, rfl, rfl⟩
  level    := show 0#3 = interruptLevel 0#16 0#16 by decide
  table    := rfl
  pointers := pointersEven_cold c
  programs := ⟨htable, by rintro _ ⟨⟩⟩
  bus      := ⟨List.nodup_nil, by rintro _ ⟨⟩⟩

end Sys2Proof.Machine

namespace Sys2Proof.Reset

open Sys2Proof.Machine

/-- Settles O18: power-on and reset start from the cold state of the configuration, and send their messages. -/
theorem powerOnAndReset : Obligations.PowerOnAndReset := by
  intro s
  refine ⟨applyInput_powerOn_without_rom, fun hoff hrom => ?_, fun hon => ?_⟩
  · rw [applyInput_powerOn_with_rom hoff hrom, notify_notify]
  · rw [applyInput, reset_of_powered hon]
    rfl

/-- Settles O8: the words of the default table are well-formed, and the power-on messages are outside the invariant. -/
theorem resetInvariant : Obligations.ResetInvariant :=
  (inv_cold defaultBltProgram_wellFormed).with_ext _

/-- Settles O16: the reset state is the cold state of the default configuration, whose arrays hold one value each. -/
theorem resetValues : Obligations.ResetValues := by
  refine ⟨rfl, rfl, rfl, fun i => ?event, rfl, rfl, rfl, rfl, rfl, rfl, rfl, rfl, rfl, ?blitter,
    ⟨rfl, rfl, rfl, rfl, rfl, rfl, cold_plane Cfg.default⟩, ⟨rfl, rfl, rfl, rfl, rfl, rfl, rfl, rfl⟩,
    fun n => ?sprite, cold_color Cfg.default, rfl, rfl, rfl, rfl, rfl, rfl⟩
  case event =>
    have hidle : State.reset.events.slots[i] = Event.idle := cold_event Cfg.default i
    rw [hidle]
    exact ⟨rfl, rfl, rfl⟩
  case blitter =>
    have hblitter : State.reset.blitter = Blitter.reset := rfl
    simp [hblitter, Blitter.reset]
  case sprite =>
    have hsprite : State.reset.sprites[n] = Sprite.reset := cold_sprite Cfg.default n
    simp [hsprite, Sprite.reset]

end Sys2Proof.Reset
end
